-- ==== Sys2Proof/Word.lean ====
section
/-! DEFINITION. The words of the machine: bytes, ROM addresses, RAM addresses, ROM words
(00_scope.md R4, R7; 10_state.md R20, R32, R33). -/

namespace Sys2Proof

/-- `DATA_WIDTH` of R4: AC, X, Y, OUT, IR, D, UNDEF, a RAM byte and the input byte have 8 bits. -/
abbrev Byte := BitVec 8

/-- `PC_WIDTH` of R4, and the width of an effective address before masking (R52). -/
abbrev Addr := BitVec 16

/-- A RAM index: a 16-bit effective address masked to its low 15 bits (R33, R52). -/
abbrev RamAddr := BitVec 15

/-- One ROM word, "an ordered pair, not a 16-bit integer" (R32, R54, R80). -/
structure RomWord where
  opcode : Byte
  data   : Byte
deriving DecidableEq, Repr, Inhabited

end Sys2Proof
end

