-- ==== Sys2Proof/Config.lean ====
section
/-! DEFINITION. What the spec fixes as parameters of the block (00_scope.md R4), and the values it
leaves open: the latter are opaque constants, so that nothing can be proved of them. -/

namespace Sys2Proof.Config

/-- `ROM_WORDS` of R4. -/
def romWords : Nat := 65536

/-- `RAM_BYTES` of R4. -/
def ramBytes : Nat := 32768

/-- `HARD_RESET_PC` of R4: the spec's decision D5 (log 3). -/
def hardResetPc : Addr := 0x0000

/-- The default of `SOFT_RESET_PC` of R4: OPEN in the spec (D6), an argument of `softReset` (log 19). -/
def softResetPc : Addr := 0x0000

/-- Pixels per CPU cycle, R4 and R231. -/
def columnsPerCycle : Nat := 4

/-- The colour channel scale, R4 and R224. -/
def colourScale : Byte := 85

/-- `ROM_FILL` of R4 and R66: what a ROM word past the loaded image holds, fixed for a run and arbitrary.
FREE VALUE, DESIGN CHOICE, safe: no body, so no claim can rest on what it is (log 4). -/
opaque romFill : Addr → RomWord

/-- The entropy draw `u` of a cycle, by the cycle's number, where the run was given none (R4, R6, R135).
FREE VALUE, DESIGN CHOICE, safe (log 5). -/
opaque floatingBus : Nat → Byte

/-- The input byte of a cycle, by the cycle's number, where the run was given none (R6, R31; N8 of 91).
FREE VALUE, DESIGN CHOICE, safe (log 6). -/
opaque hostInput : Nat → Byte

end Sys2Proof.Config
end

