-- ==== Sys2Proof/Syntax.lean ====
section
/-! DEFINITION. The instruction set: one constructor for each row of spec/opcode_table.json, in the table's order,
which is the order of the opcode byte (30_encoding.md R87, R94). A constructor's name is operation, bus source, then
the mode token of R90 read as "address form to destination". The decoder maps the opcode byte alone ("decode(byte) ->
Instruction", R87); the data byte that is paired with it stands in register D when the instruction executes (R80,
10_state.md R23), and the meanings read it there. -/

namespace Sys2Proof

/-- The operation field (R82), numbered by the spec's decision D1 (log 12). -/
inductive Operation where
  | load
  | and
  | or
  | xor
  | add
  | sub
  | store
  | jump
deriving DecidableEq, Repr

/-- The mode field of a non-jump instruction (R83). -/
inductive Mode where
  /-- `[D]>AC` -/
  | dToAc
  /-- `[X]>AC` -/
  | xToAc
  /-- `[Y:D]>AC` -/
  | ydToAc
  /-- `[Y:X]>AC` -/
  | yxToAc
  /-- `[D]>X` -/
  | dToX
  /-- `[D]>Y` -/
  | dToY
  /-- `[D]>OUT` -/
  | dToOut
  /-- `[Y:X++]>OUT` -/
  | yxIncToOut
deriving DecidableEq, Repr

/-- The mode field of a jump: the far jump, or a branch-condition mask (R84). -/
inductive Cond where
  | jmp
  | bgt
  | blt
  | bne
  | beq
  | bge
  | ble
  | bra
deriving DecidableEq, Repr

/-- The bus field (R85). -/
inductive Bus where
  | data
  | ram
  | ac
  | input
deriving DecidableEq, Repr

/-- The instructions. `NOP` (R91) is `ldAc_dToAc` with the data byte 0x00. -/
inductive Instr where
  | ldD_dToAc
  | ldRam_dToAc
  | ldAc_dToAc
  | ldIn_dToAc
  | ldD_xToAc
  | ldRam_xToAc
  | ldAc_xToAc
  | ldIn_xToAc
  | ldD_ydToAc
  | ldRam_ydToAc
  | ldAc_ydToAc
  | ldIn_ydToAc
  | ldD_yxToAc
  | ldRam_yxToAc
  | ldAc_yxToAc
  | ldIn_yxToAc
  | ldD_dToX
  | ldRam_dToX
  | ldAc_dToX
  | ldIn_dToX
  | ldD_dToY
  | ldRam_dToY
  | ldAc_dToY
  | ldIn_dToY
  | ldD_dToOut
  | ldRam_dToOut
  | ldAc_dToOut
  | ldIn_dToOut
  | ldD_yxIncToOut
  | ldRam_yxIncToOut
  | ldAc_yxIncToOut
  | ldIn_yxIncToOut
  | andD_dToAc
  | andRam_dToAc
  | andAc_dToAc
  | andIn_dToAc
  | andD_xToAc
  | andRam_xToAc
  | andAc_xToAc
  | andIn_xToAc
  | andD_ydToAc
  | andRam_ydToAc
  | andAc_ydToAc
  | andIn_ydToAc
  | andD_yxToAc
  | andRam_yxToAc
  | andAc_yxToAc
  | andIn_yxToAc
  | andD_dToX
  | andRam_dToX
  | andAc_dToX
  | andIn_dToX
  | andD_dToY
  | andRam_dToY
  | andAc_dToY
  | andIn_dToY
  | andD_dToOut
  | andRam_dToOut
  | andAc_dToOut
  | andIn_dToOut
  | andD_yxIncToOut
  | andRam_yxIncToOut
  | andAc_yxIncToOut
  | andIn_yxIncToOut
  | orD_dToAc
  | orRam_dToAc
  | orAc_dToAc
  | orIn_dToAc
  | orD_xToAc
  | orRam_xToAc
  | orAc_xToAc
  | orIn_xToAc
  | orD_ydToAc
  | orRam_ydToAc
  | orAc_ydToAc
  | orIn_ydToAc
  | orD_yxToAc
  | orRam_yxToAc
  | orAc_yxToAc
  | orIn_yxToAc
  | orD_dToX
  | orRam_dToX
  | orAc_dToX
  | orIn_dToX
  | orD_dToY
  | orRam_dToY
  | orAc_dToY
  | orIn_dToY
  | orD_dToOut
  | orRam_dToOut
  | orAc_dToOut
  | orIn_dToOut
  | orD_yxIncToOut
  | orRam_yxIncToOut
  | orAc_yxIncToOut
  | orIn_yxIncToOut
  | xorD_dToAc
  | xorRam_dToAc
  | xorAc_dToAc
  | xorIn_dToAc
  | xorD_xToAc
  | xorRam_xToAc
  | xorAc_xToAc
  | xorIn_xToAc
  | xorD_ydToAc
  | xorRam_ydToAc
  | xorAc_ydToAc
  | xorIn_ydToAc
  | xorD_yxToAc
  | xorRam_yxToAc
  | xorAc_yxToAc
  | xorIn_yxToAc
  | xorD_dToX
  | xorRam_dToX
  | xorAc_dToX
  | xorIn_dToX
  | xorD_dToY
  | xorRam_dToY
  | xorAc_dToY
  | xorIn_dToY
  | xorD_dToOut
  | xorRam_dToOut
  | xorAc_dToOut
  | xorIn_dToOut
  | xorD_yxIncToOut
  | xorRam_yxIncToOut
  | xorAc_yxIncToOut
  | xorIn_yxIncToOut
  | addD_dToAc
  | addRam_dToAc
  | addAc_dToAc
  | addIn_dToAc
  | addD_xToAc
  | addRam_xToAc
  | addAc_xToAc
  | addIn_xToAc
  | addD_ydToAc
  | addRam_ydToAc
  | addAc_ydToAc
  | addIn_ydToAc
  | addD_yxToAc
  | addRam_yxToAc
  | addAc_yxToAc
  | addIn_yxToAc
  | addD_dToX
  | addRam_dToX
  | addAc_dToX
  | addIn_dToX
  | addD_dToY
  | addRam_dToY
  | addAc_dToY
  | addIn_dToY
  | addD_dToOut
  | addRam_dToOut
  | addAc_dToOut
  | addIn_dToOut
  | addD_yxIncToOut
  | addRam_yxIncToOut
  | addAc_yxIncToOut
  | addIn_yxIncToOut
  | subD_dToAc
  | subRam_dToAc
  | subAc_dToAc
  | subIn_dToAc
  | subD_xToAc
  | subRam_xToAc
  | subAc_xToAc
  | subIn_xToAc
  | subD_ydToAc
  | subRam_ydToAc
  | subAc_ydToAc
  | subIn_ydToAc
  | subD_yxToAc
  | subRam_yxToAc
  | subAc_yxToAc
  | subIn_yxToAc
  | subD_dToX
  | subRam_dToX
  | subAc_dToX
  | subIn_dToX
  | subD_dToY
  | subRam_dToY
  | subAc_dToY
  | subIn_dToY
  | subD_dToOut
  | subRam_dToOut
  | subAc_dToOut
  | subIn_dToOut
  | subD_yxIncToOut
  | subRam_yxIncToOut
  | subAc_yxIncToOut
  | subIn_yxIncToOut
  | stD_dToAc
  | stRam_dToAc
  | stAc_dToAc
  | stIn_dToAc
  | stD_xToAc
  | stRam_xToAc
  | stAc_xToAc
  | stIn_xToAc
  | stD_ydToAc
  | stRam_ydToAc
  | stAc_ydToAc
  | stIn_ydToAc
  | stD_yxToAc
  | stRam_yxToAc
  | stAc_yxToAc
  | stIn_yxToAc
  | stD_dToX
  | stRam_dToX
  | stAc_dToX
  | stIn_dToX
  | stD_dToY
  | stRam_dToY
  | stAc_dToY
  | stIn_dToY
  | stD_dToOut
  | stRam_dToOut
  | stAc_dToOut
  | stIn_dToOut
  | stD_yxIncToOut
  | stRam_yxIncToOut
  | stAc_yxIncToOut
  | stIn_yxIncToOut
  | jmpD
  | jmpRam
  | jmpAc
  | jmpIn
  | bgtD
  | bgtRam
  | bgtAc
  | bgtIn
  | bltD
  | bltRam
  | bltAc
  | bltIn
  | bneD
  | bneRam
  | bneAc
  | bneIn
  | beqD
  | beqRam
  | beqAc
  | beqIn
  | bgeD
  | bgeRam
  | bgeAc
  | bgeIn
  | bleD
  | bleRam
  | bleAc
  | bleIn
  | braD
  | braRam
  | braAc
  | braIn
deriving DecidableEq, Repr

end Sys2Proof
end

