-- ==== Sys2Proof/WellFormed.lean ====
section
/-! DEFINITION. What is well formed. The spec has no ill-formed instruction: "Every opcode byte with every data byte
executes as its three fields say" (30_encoding.md R88), and a constructor has no operand to be out of range.
What can be ill formed is a ROM image (20_memory.md R66). -/

namespace Sys2Proof

/-- Every instruction is well formed (R87, R88). -/
def Instr.wellFormed (_ : Instr) : Bool := true

/-- A ROM image is a sequence of whole pairs: its length is even (R66; D22, log 11). -/
def imageWholePairs (image : List Byte) : Bool := image.length % 2 == 0

/-- A ROM image holds at most 65,536 pairs (R66). -/
def imageFits (image : List Byte) : Bool := decide (image.length ≤ 2 * Config.romWords)

/-- The images that have a ROM (R66). -/
def imageOk (image : List Byte) : Bool := imageWholePairs image && imageFits image

end Sys2Proof
end

