-- ==== Sys2Proof/Decode.lean ====
section
/-! DEFINITION. The decoder, total on every opcode byte with every data byte (30_encoding.md R81, R87, R88), the
reading of a ROM image (20_memory.md R66), and after them the encoder (R92). -/

namespace Sys2Proof

/-! ### Fields of the opcode byte -/

/-- `op = IR[7:5]` (R81). -/
def operationBits (opcode : Byte) : BitVec 3 := opcode.extractLsb' 5 3

/-- `mode = IR[4:2]` (R81). -/
def modeBits (opcode : Byte) : BitVec 3 := opcode.extractLsb' 2 3

/-- `bus = IR[1:0]` (R81). -/
def busBits (opcode : Byte) : BitVec 2 := opcode.extractLsb' 0 2

/-- The values of `op` (R82). -/
def operationOf (v : BitVec 3) : Operation :=
  match v.getLsbD 2, v.getLsbD 1, v.getLsbD 0 with
  | false, false, false => .load
  | false, false, true => .and
  | false, true, false => .or
  | false, true, true => .xor
  | true, false, false => .add
  | true, false, true => .sub
  | true, true, false => .store
  | true, true, true => .jump

/-- The values of `mode` when `op` is not 7 (R83). -/
def modeOf (v : BitVec 3) : Mode :=
  match v.getLsbD 2, v.getLsbD 1, v.getLsbD 0 with
  | false, false, false => .dToAc
  | false, false, true => .xToAc
  | false, true, false => .ydToAc
  | false, true, true => .yxToAc
  | true, false, false => .dToX
  | true, false, true => .dToY
  | true, true, false => .dToOut
  | true, true, true => .yxIncToOut

/-- The values of `mode` when `op` is 7 (R84). -/
def condOf (v : BitVec 3) : Cond :=
  match v.getLsbD 2, v.getLsbD 1, v.getLsbD 0 with
  | false, false, false => .jmp
  | false, false, true => .bgt
  | false, true, false => .blt
  | false, true, true => .bne
  | true, false, false => .beq
  | true, false, true => .bge
  | true, true, false => .ble
  | true, true, true => .bra

/-- The values of `bus` (R85). -/
def busOf (v : BitVec 2) : Bus :=
  match v.getLsbD 1, v.getLsbD 0 with
  | false, false => .data
  | false, true => .ram
  | true, false => .ac
  | true, true => .input

/-! ### The rows of the opcode matrix, by their fields (R94) -/

/-- The LD row with a mode and a bus source. -/
def ldInstr (m : Mode) (b : Bus) : Instr :=
  match m, b with
  | .dToAc, .data => .ldD_dToAc
  | .dToAc, .ram => .ldRam_dToAc
  | .dToAc, .ac => .ldAc_dToAc
  | .dToAc, .input => .ldIn_dToAc
  | .xToAc, .data => .ldD_xToAc
  | .xToAc, .ram => .ldRam_xToAc
  | .xToAc, .ac => .ldAc_xToAc
  | .xToAc, .input => .ldIn_xToAc
  | .ydToAc, .data => .ldD_ydToAc
  | .ydToAc, .ram => .ldRam_ydToAc
  | .ydToAc, .ac => .ldAc_ydToAc
  | .ydToAc, .input => .ldIn_ydToAc
  | .yxToAc, .data => .ldD_yxToAc
  | .yxToAc, .ram => .ldRam_yxToAc
  | .yxToAc, .ac => .ldAc_yxToAc
  | .yxToAc, .input => .ldIn_yxToAc
  | .dToX, .data => .ldD_dToX
  | .dToX, .ram => .ldRam_dToX
  | .dToX, .ac => .ldAc_dToX
  | .dToX, .input => .ldIn_dToX
  | .dToY, .data => .ldD_dToY
  | .dToY, .ram => .ldRam_dToY
  | .dToY, .ac => .ldAc_dToY
  | .dToY, .input => .ldIn_dToY
  | .dToOut, .data => .ldD_dToOut
  | .dToOut, .ram => .ldRam_dToOut
  | .dToOut, .ac => .ldAc_dToOut
  | .dToOut, .input => .ldIn_dToOut
  | .yxIncToOut, .data => .ldD_yxIncToOut
  | .yxIncToOut, .ram => .ldRam_yxIncToOut
  | .yxIncToOut, .ac => .ldAc_yxIncToOut
  | .yxIncToOut, .input => .ldIn_yxIncToOut

/-- The AND row with a mode and a bus source. -/
def andInstr (m : Mode) (b : Bus) : Instr :=
  match m, b with
  | .dToAc, .data => .andD_dToAc
  | .dToAc, .ram => .andRam_dToAc
  | .dToAc, .ac => .andAc_dToAc
  | .dToAc, .input => .andIn_dToAc
  | .xToAc, .data => .andD_xToAc
  | .xToAc, .ram => .andRam_xToAc
  | .xToAc, .ac => .andAc_xToAc
  | .xToAc, .input => .andIn_xToAc
  | .ydToAc, .data => .andD_ydToAc
  | .ydToAc, .ram => .andRam_ydToAc
  | .ydToAc, .ac => .andAc_ydToAc
  | .ydToAc, .input => .andIn_ydToAc
  | .yxToAc, .data => .andD_yxToAc
  | .yxToAc, .ram => .andRam_yxToAc
  | .yxToAc, .ac => .andAc_yxToAc
  | .yxToAc, .input => .andIn_yxToAc
  | .dToX, .data => .andD_dToX
  | .dToX, .ram => .andRam_dToX
  | .dToX, .ac => .andAc_dToX
  | .dToX, .input => .andIn_dToX
  | .dToY, .data => .andD_dToY
  | .dToY, .ram => .andRam_dToY
  | .dToY, .ac => .andAc_dToY
  | .dToY, .input => .andIn_dToY
  | .dToOut, .data => .andD_dToOut
  | .dToOut, .ram => .andRam_dToOut
  | .dToOut, .ac => .andAc_dToOut
  | .dToOut, .input => .andIn_dToOut
  | .yxIncToOut, .data => .andD_yxIncToOut
  | .yxIncToOut, .ram => .andRam_yxIncToOut
  | .yxIncToOut, .ac => .andAc_yxIncToOut
  | .yxIncToOut, .input => .andIn_yxIncToOut

/-- The OR row with a mode and a bus source. -/
def orInstr (m : Mode) (b : Bus) : Instr :=
  match m, b with
  | .dToAc, .data => .orD_dToAc
  | .dToAc, .ram => .orRam_dToAc
  | .dToAc, .ac => .orAc_dToAc
  | .dToAc, .input => .orIn_dToAc
  | .xToAc, .data => .orD_xToAc
  | .xToAc, .ram => .orRam_xToAc
  | .xToAc, .ac => .orAc_xToAc
  | .xToAc, .input => .orIn_xToAc
  | .ydToAc, .data => .orD_ydToAc
  | .ydToAc, .ram => .orRam_ydToAc
  | .ydToAc, .ac => .orAc_ydToAc
  | .ydToAc, .input => .orIn_ydToAc
  | .yxToAc, .data => .orD_yxToAc
  | .yxToAc, .ram => .orRam_yxToAc
  | .yxToAc, .ac => .orAc_yxToAc
  | .yxToAc, .input => .orIn_yxToAc
  | .dToX, .data => .orD_dToX
  | .dToX, .ram => .orRam_dToX
  | .dToX, .ac => .orAc_dToX
  | .dToX, .input => .orIn_dToX
  | .dToY, .data => .orD_dToY
  | .dToY, .ram => .orRam_dToY
  | .dToY, .ac => .orAc_dToY
  | .dToY, .input => .orIn_dToY
  | .dToOut, .data => .orD_dToOut
  | .dToOut, .ram => .orRam_dToOut
  | .dToOut, .ac => .orAc_dToOut
  | .dToOut, .input => .orIn_dToOut
  | .yxIncToOut, .data => .orD_yxIncToOut
  | .yxIncToOut, .ram => .orRam_yxIncToOut
  | .yxIncToOut, .ac => .orAc_yxIncToOut
  | .yxIncToOut, .input => .orIn_yxIncToOut

/-- The XOR row with a mode and a bus source. -/
def xorInstr (m : Mode) (b : Bus) : Instr :=
  match m, b with
  | .dToAc, .data => .xorD_dToAc
  | .dToAc, .ram => .xorRam_dToAc
  | .dToAc, .ac => .xorAc_dToAc
  | .dToAc, .input => .xorIn_dToAc
  | .xToAc, .data => .xorD_xToAc
  | .xToAc, .ram => .xorRam_xToAc
  | .xToAc, .ac => .xorAc_xToAc
  | .xToAc, .input => .xorIn_xToAc
  | .ydToAc, .data => .xorD_ydToAc
  | .ydToAc, .ram => .xorRam_ydToAc
  | .ydToAc, .ac => .xorAc_ydToAc
  | .ydToAc, .input => .xorIn_ydToAc
  | .yxToAc, .data => .xorD_yxToAc
  | .yxToAc, .ram => .xorRam_yxToAc
  | .yxToAc, .ac => .xorAc_yxToAc
  | .yxToAc, .input => .xorIn_yxToAc
  | .dToX, .data => .xorD_dToX
  | .dToX, .ram => .xorRam_dToX
  | .dToX, .ac => .xorAc_dToX
  | .dToX, .input => .xorIn_dToX
  | .dToY, .data => .xorD_dToY
  | .dToY, .ram => .xorRam_dToY
  | .dToY, .ac => .xorAc_dToY
  | .dToY, .input => .xorIn_dToY
  | .dToOut, .data => .xorD_dToOut
  | .dToOut, .ram => .xorRam_dToOut
  | .dToOut, .ac => .xorAc_dToOut
  | .dToOut, .input => .xorIn_dToOut
  | .yxIncToOut, .data => .xorD_yxIncToOut
  | .yxIncToOut, .ram => .xorRam_yxIncToOut
  | .yxIncToOut, .ac => .xorAc_yxIncToOut
  | .yxIncToOut, .input => .xorIn_yxIncToOut

/-- The ADD row with a mode and a bus source. -/
def addInstr (m : Mode) (b : Bus) : Instr :=
  match m, b with
  | .dToAc, .data => .addD_dToAc
  | .dToAc, .ram => .addRam_dToAc
  | .dToAc, .ac => .addAc_dToAc
  | .dToAc, .input => .addIn_dToAc
  | .xToAc, .data => .addD_xToAc
  | .xToAc, .ram => .addRam_xToAc
  | .xToAc, .ac => .addAc_xToAc
  | .xToAc, .input => .addIn_xToAc
  | .ydToAc, .data => .addD_ydToAc
  | .ydToAc, .ram => .addRam_ydToAc
  | .ydToAc, .ac => .addAc_ydToAc
  | .ydToAc, .input => .addIn_ydToAc
  | .yxToAc, .data => .addD_yxToAc
  | .yxToAc, .ram => .addRam_yxToAc
  | .yxToAc, .ac => .addAc_yxToAc
  | .yxToAc, .input => .addIn_yxToAc
  | .dToX, .data => .addD_dToX
  | .dToX, .ram => .addRam_dToX
  | .dToX, .ac => .addAc_dToX
  | .dToX, .input => .addIn_dToX
  | .dToY, .data => .addD_dToY
  | .dToY, .ram => .addRam_dToY
  | .dToY, .ac => .addAc_dToY
  | .dToY, .input => .addIn_dToY
  | .dToOut, .data => .addD_dToOut
  | .dToOut, .ram => .addRam_dToOut
  | .dToOut, .ac => .addAc_dToOut
  | .dToOut, .input => .addIn_dToOut
  | .yxIncToOut, .data => .addD_yxIncToOut
  | .yxIncToOut, .ram => .addRam_yxIncToOut
  | .yxIncToOut, .ac => .addAc_yxIncToOut
  | .yxIncToOut, .input => .addIn_yxIncToOut

/-- The SUB row with a mode and a bus source. -/
def subInstr (m : Mode) (b : Bus) : Instr :=
  match m, b with
  | .dToAc, .data => .subD_dToAc
  | .dToAc, .ram => .subRam_dToAc
  | .dToAc, .ac => .subAc_dToAc
  | .dToAc, .input => .subIn_dToAc
  | .xToAc, .data => .subD_xToAc
  | .xToAc, .ram => .subRam_xToAc
  | .xToAc, .ac => .subAc_xToAc
  | .xToAc, .input => .subIn_xToAc
  | .ydToAc, .data => .subD_ydToAc
  | .ydToAc, .ram => .subRam_ydToAc
  | .ydToAc, .ac => .subAc_ydToAc
  | .ydToAc, .input => .subIn_ydToAc
  | .yxToAc, .data => .subD_yxToAc
  | .yxToAc, .ram => .subRam_yxToAc
  | .yxToAc, .ac => .subAc_yxToAc
  | .yxToAc, .input => .subIn_yxToAc
  | .dToX, .data => .subD_dToX
  | .dToX, .ram => .subRam_dToX
  | .dToX, .ac => .subAc_dToX
  | .dToX, .input => .subIn_dToX
  | .dToY, .data => .subD_dToY
  | .dToY, .ram => .subRam_dToY
  | .dToY, .ac => .subAc_dToY
  | .dToY, .input => .subIn_dToY
  | .dToOut, .data => .subD_dToOut
  | .dToOut, .ram => .subRam_dToOut
  | .dToOut, .ac => .subAc_dToOut
  | .dToOut, .input => .subIn_dToOut
  | .yxIncToOut, .data => .subD_yxIncToOut
  | .yxIncToOut, .ram => .subRam_yxIncToOut
  | .yxIncToOut, .ac => .subAc_yxIncToOut
  | .yxIncToOut, .input => .subIn_yxIncToOut

/-- The ST row with a mode and a bus source. -/
def stInstr (m : Mode) (b : Bus) : Instr :=
  match m, b with
  | .dToAc, .data => .stD_dToAc
  | .dToAc, .ram => .stRam_dToAc
  | .dToAc, .ac => .stAc_dToAc
  | .dToAc, .input => .stIn_dToAc
  | .xToAc, .data => .stD_xToAc
  | .xToAc, .ram => .stRam_xToAc
  | .xToAc, .ac => .stAc_xToAc
  | .xToAc, .input => .stIn_xToAc
  | .ydToAc, .data => .stD_ydToAc
  | .ydToAc, .ram => .stRam_ydToAc
  | .ydToAc, .ac => .stAc_ydToAc
  | .ydToAc, .input => .stIn_ydToAc
  | .yxToAc, .data => .stD_yxToAc
  | .yxToAc, .ram => .stRam_yxToAc
  | .yxToAc, .ac => .stAc_yxToAc
  | .yxToAc, .input => .stIn_yxToAc
  | .dToX, .data => .stD_dToX
  | .dToX, .ram => .stRam_dToX
  | .dToX, .ac => .stAc_dToX
  | .dToX, .input => .stIn_dToX
  | .dToY, .data => .stD_dToY
  | .dToY, .ram => .stRam_dToY
  | .dToY, .ac => .stAc_dToY
  | .dToY, .input => .stIn_dToY
  | .dToOut, .data => .stD_dToOut
  | .dToOut, .ram => .stRam_dToOut
  | .dToOut, .ac => .stAc_dToOut
  | .dToOut, .input => .stIn_dToOut
  | .yxIncToOut, .data => .stD_yxIncToOut
  | .yxIncToOut, .ram => .stRam_yxIncToOut
  | .yxIncToOut, .ac => .stAc_yxIncToOut
  | .yxIncToOut, .input => .stIn_yxIncToOut

/-- The jump row with a condition and a bus source. -/
def jumpInstr (c : Cond) (b : Bus) : Instr :=
  match c, b with
  | .jmp, .data => .jmpD
  | .jmp, .ram => .jmpRam
  | .jmp, .ac => .jmpAc
  | .jmp, .input => .jmpIn
  | .bgt, .data => .bgtD
  | .bgt, .ram => .bgtRam
  | .bgt, .ac => .bgtAc
  | .bgt, .input => .bgtIn
  | .blt, .data => .bltD
  | .blt, .ram => .bltRam
  | .blt, .ac => .bltAc
  | .blt, .input => .bltIn
  | .bne, .data => .bneD
  | .bne, .ram => .bneRam
  | .bne, .ac => .bneAc
  | .bne, .input => .bneIn
  | .beq, .data => .beqD
  | .beq, .ram => .beqRam
  | .beq, .ac => .beqAc
  | .beq, .input => .beqIn
  | .bge, .data => .bgeD
  | .bge, .ram => .bgeRam
  | .bge, .ac => .bgeAc
  | .bge, .input => .bgeIn
  | .ble, .data => .bleD
  | .ble, .ram => .bleRam
  | .ble, .ac => .bleAc
  | .ble, .input => .bleIn
  | .bra, .data => .braD
  | .bra, .ram => .braRam
  | .bra, .ac => .braAc
  | .bra, .input => .braIn

/-- The instruction with the given fields: the meaning of `mode` depends on whether `op` is 7 (R89). -/
def instrOfFields (op : Operation) (mode : BitVec 3) (b : Bus) : Instr :=
  match op with
  | .load => ldInstr (modeOf mode) b
  | .and => andInstr (modeOf mode) b
  | .or => orInstr (modeOf mode) b
  | .xor => xorInstr (modeOf mode) b
  | .add => addInstr (modeOf mode) b
  | .sub => subInstr (modeOf mode) b
  | .store => stInstr (modeOf mode) b
  | .jump => jumpInstr (condOf mode) b

/-- The instruction of an opcode byte: "total and must never fail for any of the 256 input
values" (R87). -/
def decodeOpcode (opcode : Byte) : Instr :=
  instrOfFields (operationOf (operationBits opcode)) (modeBits opcode) (busOf (busBits opcode))

/-! ### Bytes -/

/-- Why a string of bytes holds no instruction. -/
inductive DecodeError where
  /-- Fewer than the two bytes of an instruction word (R80). -/
  | truncated
deriving DecidableEq, Repr

/-- What reading one instruction from a byte string gives. -/
inductive DecodeResult where
  /-- The instruction, its data byte, and the rest of the string. -/
  | ok (i : Instr) (data : Byte) (rest : List Byte)
  | rejected (e : DecodeError)
deriving DecidableEq, Repr

/-- Reads one instruction word from a byte string, the opcode byte first (R54, R80). The only string it rejects is one shorter than a word: no opcode is illegal (R88). -/
def decode (bytes : List Byte) : DecodeResult :=
  match bytes with
  | opcode :: data :: rest => .ok (decodeOpcode opcode) data rest
  | [_] => .rejected .truncated
  | [] => .rejected .truncated

/-- The words of a ROM image: "sequential (opcode, data) pairs" (R66). -/
def imageWords (image : List Byte) : List RomWord :=
  match image with
  | opcode :: data :: rest => ⟨opcode, data⟩ :: imageWords rest
  | [_] => []
  | [] => []

/-- ROM content from an image. An image of odd length or of more than 65,536 pairs has no ROM (R66: the spec's
decision D22, log 11). -/
def loadImage (image : List Byte) : Option (List RomWord) :=
  if imageOk image then some (imageWords image) else none

/-- The instruction the decoder reads from the bits `w`, numbered as spec/opcode_table.json numbers them: the one
16-bit word, opcode byte in bits 15:8 and data byte in bits 7:0 (R94), laid out opcode byte first (log 23). -/
def decodeTableWord (nbits w : Nat) : Option Instr :=
  let v := w % 2 ^ nbits
  if nbits ≤ 16 then
    match decode [BitVec.ofNat 8 (v / 256), BitVec.ofNat 8 v] with
    | .ok i _ _ => some i
    | .rejected _ => none
  else none

/-! ### The encoder -/

/-- The fields of an instruction (R81). -/
structure Fields where
  op   : Operation
  mode : BitVec 3
  bus  : Bus
deriving DecidableEq, Repr

/-- The number of an operation (R82). -/
def operationCode (v : Operation) : BitVec 3 :=
  match v with
  | .load => 0
  | .and => 1
  | .or => 2
  | .xor => 3
  | .add => 4
  | .sub => 5
  | .store => 6
  | .jump => 7

/-- The number of an addressing mode (R83). -/
def modeCode (v : Mode) : BitVec 3 :=
  match v with
  | .dToAc => 0
  | .xToAc => 1
  | .ydToAc => 2
  | .yxToAc => 3
  | .dToX => 4
  | .dToY => 5
  | .dToOut => 6
  | .yxIncToOut => 7

/-- The mask of a branch condition, 0 for the far jump (R84). -/
def condCode (v : Cond) : BitVec 3 :=
  match v with
  | .jmp => 0
  | .bgt => 1
  | .blt => 2
  | .bne => 3
  | .beq => 4
  | .bge => 5
  | .ble => 6
  | .bra => 7

/-- The number of a bus source (R85). -/
def busCode (v : Bus) : BitVec 2 :=
  match v with
  | .data => 0
  | .ram => 1
  | .ac => 2
  | .input => 3

/-- The fields of every instruction, row by row of the matrix (R94). -/
def fieldsOf (i : Instr) : Fields :=
  match i with
  | .ldD_dToAc => ⟨.load, modeCode .dToAc, .data⟩
  | .ldRam_dToAc => ⟨.load, modeCode .dToAc, .ram⟩
  | .ldAc_dToAc => ⟨.load, modeCode .dToAc, .ac⟩
  | .ldIn_dToAc => ⟨.load, modeCode .dToAc, .input⟩
  | .ldD_xToAc => ⟨.load, modeCode .xToAc, .data⟩
  | .ldRam_xToAc => ⟨.load, modeCode .xToAc, .ram⟩
  | .ldAc_xToAc => ⟨.load, modeCode .xToAc, .ac⟩
  | .ldIn_xToAc => ⟨.load, modeCode .xToAc, .input⟩
  | .ldD_ydToAc => ⟨.load, modeCode .ydToAc, .data⟩
  | .ldRam_ydToAc => ⟨.load, modeCode .ydToAc, .ram⟩
  | .ldAc_ydToAc => ⟨.load, modeCode .ydToAc, .ac⟩
  | .ldIn_ydToAc => ⟨.load, modeCode .ydToAc, .input⟩
  | .ldD_yxToAc => ⟨.load, modeCode .yxToAc, .data⟩
  | .ldRam_yxToAc => ⟨.load, modeCode .yxToAc, .ram⟩
  | .ldAc_yxToAc => ⟨.load, modeCode .yxToAc, .ac⟩
  | .ldIn_yxToAc => ⟨.load, modeCode .yxToAc, .input⟩
  | .ldD_dToX => ⟨.load, modeCode .dToX, .data⟩
  | .ldRam_dToX => ⟨.load, modeCode .dToX, .ram⟩
  | .ldAc_dToX => ⟨.load, modeCode .dToX, .ac⟩
  | .ldIn_dToX => ⟨.load, modeCode .dToX, .input⟩
  | .ldD_dToY => ⟨.load, modeCode .dToY, .data⟩
  | .ldRam_dToY => ⟨.load, modeCode .dToY, .ram⟩
  | .ldAc_dToY => ⟨.load, modeCode .dToY, .ac⟩
  | .ldIn_dToY => ⟨.load, modeCode .dToY, .input⟩
  | .ldD_dToOut => ⟨.load, modeCode .dToOut, .data⟩
  | .ldRam_dToOut => ⟨.load, modeCode .dToOut, .ram⟩
  | .ldAc_dToOut => ⟨.load, modeCode .dToOut, .ac⟩
  | .ldIn_dToOut => ⟨.load, modeCode .dToOut, .input⟩
  | .ldD_yxIncToOut => ⟨.load, modeCode .yxIncToOut, .data⟩
  | .ldRam_yxIncToOut => ⟨.load, modeCode .yxIncToOut, .ram⟩
  | .ldAc_yxIncToOut => ⟨.load, modeCode .yxIncToOut, .ac⟩
  | .ldIn_yxIncToOut => ⟨.load, modeCode .yxIncToOut, .input⟩
  | .andD_dToAc => ⟨.and, modeCode .dToAc, .data⟩
  | .andRam_dToAc => ⟨.and, modeCode .dToAc, .ram⟩
  | .andAc_dToAc => ⟨.and, modeCode .dToAc, .ac⟩
  | .andIn_dToAc => ⟨.and, modeCode .dToAc, .input⟩
  | .andD_xToAc => ⟨.and, modeCode .xToAc, .data⟩
  | .andRam_xToAc => ⟨.and, modeCode .xToAc, .ram⟩
  | .andAc_xToAc => ⟨.and, modeCode .xToAc, .ac⟩
  | .andIn_xToAc => ⟨.and, modeCode .xToAc, .input⟩
  | .andD_ydToAc => ⟨.and, modeCode .ydToAc, .data⟩
  | .andRam_ydToAc => ⟨.and, modeCode .ydToAc, .ram⟩
  | .andAc_ydToAc => ⟨.and, modeCode .ydToAc, .ac⟩
  | .andIn_ydToAc => ⟨.and, modeCode .ydToAc, .input⟩
  | .andD_yxToAc => ⟨.and, modeCode .yxToAc, .data⟩
  | .andRam_yxToAc => ⟨.and, modeCode .yxToAc, .ram⟩
  | .andAc_yxToAc => ⟨.and, modeCode .yxToAc, .ac⟩
  | .andIn_yxToAc => ⟨.and, modeCode .yxToAc, .input⟩
  | .andD_dToX => ⟨.and, modeCode .dToX, .data⟩
  | .andRam_dToX => ⟨.and, modeCode .dToX, .ram⟩
  | .andAc_dToX => ⟨.and, modeCode .dToX, .ac⟩
  | .andIn_dToX => ⟨.and, modeCode .dToX, .input⟩
  | .andD_dToY => ⟨.and, modeCode .dToY, .data⟩
  | .andRam_dToY => ⟨.and, modeCode .dToY, .ram⟩
  | .andAc_dToY => ⟨.and, modeCode .dToY, .ac⟩
  | .andIn_dToY => ⟨.and, modeCode .dToY, .input⟩
  | .andD_dToOut => ⟨.and, modeCode .dToOut, .data⟩
  | .andRam_dToOut => ⟨.and, modeCode .dToOut, .ram⟩
  | .andAc_dToOut => ⟨.and, modeCode .dToOut, .ac⟩
  | .andIn_dToOut => ⟨.and, modeCode .dToOut, .input⟩
  | .andD_yxIncToOut => ⟨.and, modeCode .yxIncToOut, .data⟩
  | .andRam_yxIncToOut => ⟨.and, modeCode .yxIncToOut, .ram⟩
  | .andAc_yxIncToOut => ⟨.and, modeCode .yxIncToOut, .ac⟩
  | .andIn_yxIncToOut => ⟨.and, modeCode .yxIncToOut, .input⟩
  | .orD_dToAc => ⟨.or, modeCode .dToAc, .data⟩
  | .orRam_dToAc => ⟨.or, modeCode .dToAc, .ram⟩
  | .orAc_dToAc => ⟨.or, modeCode .dToAc, .ac⟩
  | .orIn_dToAc => ⟨.or, modeCode .dToAc, .input⟩
  | .orD_xToAc => ⟨.or, modeCode .xToAc, .data⟩
  | .orRam_xToAc => ⟨.or, modeCode .xToAc, .ram⟩
  | .orAc_xToAc => ⟨.or, modeCode .xToAc, .ac⟩
  | .orIn_xToAc => ⟨.or, modeCode .xToAc, .input⟩
  | .orD_ydToAc => ⟨.or, modeCode .ydToAc, .data⟩
  | .orRam_ydToAc => ⟨.or, modeCode .ydToAc, .ram⟩
  | .orAc_ydToAc => ⟨.or, modeCode .ydToAc, .ac⟩
  | .orIn_ydToAc => ⟨.or, modeCode .ydToAc, .input⟩
  | .orD_yxToAc => ⟨.or, modeCode .yxToAc, .data⟩
  | .orRam_yxToAc => ⟨.or, modeCode .yxToAc, .ram⟩
  | .orAc_yxToAc => ⟨.or, modeCode .yxToAc, .ac⟩
  | .orIn_yxToAc => ⟨.or, modeCode .yxToAc, .input⟩
  | .orD_dToX => ⟨.or, modeCode .dToX, .data⟩
  | .orRam_dToX => ⟨.or, modeCode .dToX, .ram⟩
  | .orAc_dToX => ⟨.or, modeCode .dToX, .ac⟩
  | .orIn_dToX => ⟨.or, modeCode .dToX, .input⟩
  | .orD_dToY => ⟨.or, modeCode .dToY, .data⟩
  | .orRam_dToY => ⟨.or, modeCode .dToY, .ram⟩
  | .orAc_dToY => ⟨.or, modeCode .dToY, .ac⟩
  | .orIn_dToY => ⟨.or, modeCode .dToY, .input⟩
  | .orD_dToOut => ⟨.or, modeCode .dToOut, .data⟩
  | .orRam_dToOut => ⟨.or, modeCode .dToOut, .ram⟩
  | .orAc_dToOut => ⟨.or, modeCode .dToOut, .ac⟩
  | .orIn_dToOut => ⟨.or, modeCode .dToOut, .input⟩
  | .orD_yxIncToOut => ⟨.or, modeCode .yxIncToOut, .data⟩
  | .orRam_yxIncToOut => ⟨.or, modeCode .yxIncToOut, .ram⟩
  | .orAc_yxIncToOut => ⟨.or, modeCode .yxIncToOut, .ac⟩
  | .orIn_yxIncToOut => ⟨.or, modeCode .yxIncToOut, .input⟩
  | .xorD_dToAc => ⟨.xor, modeCode .dToAc, .data⟩
  | .xorRam_dToAc => ⟨.xor, modeCode .dToAc, .ram⟩
  | .xorAc_dToAc => ⟨.xor, modeCode .dToAc, .ac⟩
  | .xorIn_dToAc => ⟨.xor, modeCode .dToAc, .input⟩
  | .xorD_xToAc => ⟨.xor, modeCode .xToAc, .data⟩
  | .xorRam_xToAc => ⟨.xor, modeCode .xToAc, .ram⟩
  | .xorAc_xToAc => ⟨.xor, modeCode .xToAc, .ac⟩
  | .xorIn_xToAc => ⟨.xor, modeCode .xToAc, .input⟩
  | .xorD_ydToAc => ⟨.xor, modeCode .ydToAc, .data⟩
  | .xorRam_ydToAc => ⟨.xor, modeCode .ydToAc, .ram⟩
  | .xorAc_ydToAc => ⟨.xor, modeCode .ydToAc, .ac⟩
  | .xorIn_ydToAc => ⟨.xor, modeCode .ydToAc, .input⟩
  | .xorD_yxToAc => ⟨.xor, modeCode .yxToAc, .data⟩
  | .xorRam_yxToAc => ⟨.xor, modeCode .yxToAc, .ram⟩
  | .xorAc_yxToAc => ⟨.xor, modeCode .yxToAc, .ac⟩
  | .xorIn_yxToAc => ⟨.xor, modeCode .yxToAc, .input⟩
  | .xorD_dToX => ⟨.xor, modeCode .dToX, .data⟩
  | .xorRam_dToX => ⟨.xor, modeCode .dToX, .ram⟩
  | .xorAc_dToX => ⟨.xor, modeCode .dToX, .ac⟩
  | .xorIn_dToX => ⟨.xor, modeCode .dToX, .input⟩
  | .xorD_dToY => ⟨.xor, modeCode .dToY, .data⟩
  | .xorRam_dToY => ⟨.xor, modeCode .dToY, .ram⟩
  | .xorAc_dToY => ⟨.xor, modeCode .dToY, .ac⟩
  | .xorIn_dToY => ⟨.xor, modeCode .dToY, .input⟩
  | .xorD_dToOut => ⟨.xor, modeCode .dToOut, .data⟩
  | .xorRam_dToOut => ⟨.xor, modeCode .dToOut, .ram⟩
  | .xorAc_dToOut => ⟨.xor, modeCode .dToOut, .ac⟩
  | .xorIn_dToOut => ⟨.xor, modeCode .dToOut, .input⟩
  | .xorD_yxIncToOut => ⟨.xor, modeCode .yxIncToOut, .data⟩
  | .xorRam_yxIncToOut => ⟨.xor, modeCode .yxIncToOut, .ram⟩
  | .xorAc_yxIncToOut => ⟨.xor, modeCode .yxIncToOut, .ac⟩
  | .xorIn_yxIncToOut => ⟨.xor, modeCode .yxIncToOut, .input⟩
  | .addD_dToAc => ⟨.add, modeCode .dToAc, .data⟩
  | .addRam_dToAc => ⟨.add, modeCode .dToAc, .ram⟩
  | .addAc_dToAc => ⟨.add, modeCode .dToAc, .ac⟩
  | .addIn_dToAc => ⟨.add, modeCode .dToAc, .input⟩
  | .addD_xToAc => ⟨.add, modeCode .xToAc, .data⟩
  | .addRam_xToAc => ⟨.add, modeCode .xToAc, .ram⟩
  | .addAc_xToAc => ⟨.add, modeCode .xToAc, .ac⟩
  | .addIn_xToAc => ⟨.add, modeCode .xToAc, .input⟩
  | .addD_ydToAc => ⟨.add, modeCode .ydToAc, .data⟩
  | .addRam_ydToAc => ⟨.add, modeCode .ydToAc, .ram⟩
  | .addAc_ydToAc => ⟨.add, modeCode .ydToAc, .ac⟩
  | .addIn_ydToAc => ⟨.add, modeCode .ydToAc, .input⟩
  | .addD_yxToAc => ⟨.add, modeCode .yxToAc, .data⟩
  | .addRam_yxToAc => ⟨.add, modeCode .yxToAc, .ram⟩
  | .addAc_yxToAc => ⟨.add, modeCode .yxToAc, .ac⟩
  | .addIn_yxToAc => ⟨.add, modeCode .yxToAc, .input⟩
  | .addD_dToX => ⟨.add, modeCode .dToX, .data⟩
  | .addRam_dToX => ⟨.add, modeCode .dToX, .ram⟩
  | .addAc_dToX => ⟨.add, modeCode .dToX, .ac⟩
  | .addIn_dToX => ⟨.add, modeCode .dToX, .input⟩
  | .addD_dToY => ⟨.add, modeCode .dToY, .data⟩
  | .addRam_dToY => ⟨.add, modeCode .dToY, .ram⟩
  | .addAc_dToY => ⟨.add, modeCode .dToY, .ac⟩
  | .addIn_dToY => ⟨.add, modeCode .dToY, .input⟩
  | .addD_dToOut => ⟨.add, modeCode .dToOut, .data⟩
  | .addRam_dToOut => ⟨.add, modeCode .dToOut, .ram⟩
  | .addAc_dToOut => ⟨.add, modeCode .dToOut, .ac⟩
  | .addIn_dToOut => ⟨.add, modeCode .dToOut, .input⟩
  | .addD_yxIncToOut => ⟨.add, modeCode .yxIncToOut, .data⟩
  | .addRam_yxIncToOut => ⟨.add, modeCode .yxIncToOut, .ram⟩
  | .addAc_yxIncToOut => ⟨.add, modeCode .yxIncToOut, .ac⟩
  | .addIn_yxIncToOut => ⟨.add, modeCode .yxIncToOut, .input⟩
  | .subD_dToAc => ⟨.sub, modeCode .dToAc, .data⟩
  | .subRam_dToAc => ⟨.sub, modeCode .dToAc, .ram⟩
  | .subAc_dToAc => ⟨.sub, modeCode .dToAc, .ac⟩
  | .subIn_dToAc => ⟨.sub, modeCode .dToAc, .input⟩
  | .subD_xToAc => ⟨.sub, modeCode .xToAc, .data⟩
  | .subRam_xToAc => ⟨.sub, modeCode .xToAc, .ram⟩
  | .subAc_xToAc => ⟨.sub, modeCode .xToAc, .ac⟩
  | .subIn_xToAc => ⟨.sub, modeCode .xToAc, .input⟩
  | .subD_ydToAc => ⟨.sub, modeCode .ydToAc, .data⟩
  | .subRam_ydToAc => ⟨.sub, modeCode .ydToAc, .ram⟩
  | .subAc_ydToAc => ⟨.sub, modeCode .ydToAc, .ac⟩
  | .subIn_ydToAc => ⟨.sub, modeCode .ydToAc, .input⟩
  | .subD_yxToAc => ⟨.sub, modeCode .yxToAc, .data⟩
  | .subRam_yxToAc => ⟨.sub, modeCode .yxToAc, .ram⟩
  | .subAc_yxToAc => ⟨.sub, modeCode .yxToAc, .ac⟩
  | .subIn_yxToAc => ⟨.sub, modeCode .yxToAc, .input⟩
  | .subD_dToX => ⟨.sub, modeCode .dToX, .data⟩
  | .subRam_dToX => ⟨.sub, modeCode .dToX, .ram⟩
  | .subAc_dToX => ⟨.sub, modeCode .dToX, .ac⟩
  | .subIn_dToX => ⟨.sub, modeCode .dToX, .input⟩
  | .subD_dToY => ⟨.sub, modeCode .dToY, .data⟩
  | .subRam_dToY => ⟨.sub, modeCode .dToY, .ram⟩
  | .subAc_dToY => ⟨.sub, modeCode .dToY, .ac⟩
  | .subIn_dToY => ⟨.sub, modeCode .dToY, .input⟩
  | .subD_dToOut => ⟨.sub, modeCode .dToOut, .data⟩
  | .subRam_dToOut => ⟨.sub, modeCode .dToOut, .ram⟩
  | .subAc_dToOut => ⟨.sub, modeCode .dToOut, .ac⟩
  | .subIn_dToOut => ⟨.sub, modeCode .dToOut, .input⟩
  | .subD_yxIncToOut => ⟨.sub, modeCode .yxIncToOut, .data⟩
  | .subRam_yxIncToOut => ⟨.sub, modeCode .yxIncToOut, .ram⟩
  | .subAc_yxIncToOut => ⟨.sub, modeCode .yxIncToOut, .ac⟩
  | .subIn_yxIncToOut => ⟨.sub, modeCode .yxIncToOut, .input⟩
  | .stD_dToAc => ⟨.store, modeCode .dToAc, .data⟩
  | .stRam_dToAc => ⟨.store, modeCode .dToAc, .ram⟩
  | .stAc_dToAc => ⟨.store, modeCode .dToAc, .ac⟩
  | .stIn_dToAc => ⟨.store, modeCode .dToAc, .input⟩
  | .stD_xToAc => ⟨.store, modeCode .xToAc, .data⟩
  | .stRam_xToAc => ⟨.store, modeCode .xToAc, .ram⟩
  | .stAc_xToAc => ⟨.store, modeCode .xToAc, .ac⟩
  | .stIn_xToAc => ⟨.store, modeCode .xToAc, .input⟩
  | .stD_ydToAc => ⟨.store, modeCode .ydToAc, .data⟩
  | .stRam_ydToAc => ⟨.store, modeCode .ydToAc, .ram⟩
  | .stAc_ydToAc => ⟨.store, modeCode .ydToAc, .ac⟩
  | .stIn_ydToAc => ⟨.store, modeCode .ydToAc, .input⟩
  | .stD_yxToAc => ⟨.store, modeCode .yxToAc, .data⟩
  | .stRam_yxToAc => ⟨.store, modeCode .yxToAc, .ram⟩
  | .stAc_yxToAc => ⟨.store, modeCode .yxToAc, .ac⟩
  | .stIn_yxToAc => ⟨.store, modeCode .yxToAc, .input⟩
  | .stD_dToX => ⟨.store, modeCode .dToX, .data⟩
  | .stRam_dToX => ⟨.store, modeCode .dToX, .ram⟩
  | .stAc_dToX => ⟨.store, modeCode .dToX, .ac⟩
  | .stIn_dToX => ⟨.store, modeCode .dToX, .input⟩
  | .stD_dToY => ⟨.store, modeCode .dToY, .data⟩
  | .stRam_dToY => ⟨.store, modeCode .dToY, .ram⟩
  | .stAc_dToY => ⟨.store, modeCode .dToY, .ac⟩
  | .stIn_dToY => ⟨.store, modeCode .dToY, .input⟩
  | .stD_dToOut => ⟨.store, modeCode .dToOut, .data⟩
  | .stRam_dToOut => ⟨.store, modeCode .dToOut, .ram⟩
  | .stAc_dToOut => ⟨.store, modeCode .dToOut, .ac⟩
  | .stIn_dToOut => ⟨.store, modeCode .dToOut, .input⟩
  | .stD_yxIncToOut => ⟨.store, modeCode .yxIncToOut, .data⟩
  | .stRam_yxIncToOut => ⟨.store, modeCode .yxIncToOut, .ram⟩
  | .stAc_yxIncToOut => ⟨.store, modeCode .yxIncToOut, .ac⟩
  | .stIn_yxIncToOut => ⟨.store, modeCode .yxIncToOut, .input⟩
  | .jmpD => ⟨.jump, condCode .jmp, .data⟩
  | .jmpRam => ⟨.jump, condCode .jmp, .ram⟩
  | .jmpAc => ⟨.jump, condCode .jmp, .ac⟩
  | .jmpIn => ⟨.jump, condCode .jmp, .input⟩
  | .bgtD => ⟨.jump, condCode .bgt, .data⟩
  | .bgtRam => ⟨.jump, condCode .bgt, .ram⟩
  | .bgtAc => ⟨.jump, condCode .bgt, .ac⟩
  | .bgtIn => ⟨.jump, condCode .bgt, .input⟩
  | .bltD => ⟨.jump, condCode .blt, .data⟩
  | .bltRam => ⟨.jump, condCode .blt, .ram⟩
  | .bltAc => ⟨.jump, condCode .blt, .ac⟩
  | .bltIn => ⟨.jump, condCode .blt, .input⟩
  | .bneD => ⟨.jump, condCode .bne, .data⟩
  | .bneRam => ⟨.jump, condCode .bne, .ram⟩
  | .bneAc => ⟨.jump, condCode .bne, .ac⟩
  | .bneIn => ⟨.jump, condCode .bne, .input⟩
  | .beqD => ⟨.jump, condCode .beq, .data⟩
  | .beqRam => ⟨.jump, condCode .beq, .ram⟩
  | .beqAc => ⟨.jump, condCode .beq, .ac⟩
  | .beqIn => ⟨.jump, condCode .beq, .input⟩
  | .bgeD => ⟨.jump, condCode .bge, .data⟩
  | .bgeRam => ⟨.jump, condCode .bge, .ram⟩
  | .bgeAc => ⟨.jump, condCode .bge, .ac⟩
  | .bgeIn => ⟨.jump, condCode .bge, .input⟩
  | .bleD => ⟨.jump, condCode .ble, .data⟩
  | .bleRam => ⟨.jump, condCode .ble, .ram⟩
  | .bleAc => ⟨.jump, condCode .ble, .ac⟩
  | .bleIn => ⟨.jump, condCode .ble, .input⟩
  | .braD => ⟨.jump, condCode .bra, .data⟩
  | .braRam => ⟨.jump, condCode .bra, .ram⟩
  | .braAc => ⟨.jump, condCode .bra, .ac⟩
  | .braIn => ⟨.jump, condCode .bra, .input⟩

/-- `opcode = (op << 5) | (mode << 2) | bus` (R92). -/
def opcodeOfFields (f : Fields) : Byte :=
  ((operationCode f.op).setWidth 8 <<< 5) ||| (f.mode.setWidth 8 <<< 2) ||| (busCode f.bus).setWidth 8

/-- The opcode byte of an instruction (R92). -/
def encodeOpcode (i : Instr) : Byte := opcodeOfFields (fieldsOf i)

/-- The ROM word of an instruction with its data byte (R80). -/
def encode (i : Instr) (data : Byte) : RomWord := ⟨encodeOpcode i, data⟩

/-- The bytes of an instruction with its data byte, in the order of the ROM image (R54, R66). -/
def encodeBytes (i : Instr) (data : Byte) : List Byte := [(encode i data).opcode, (encode i data).data]

end Sys2Proof
end

