-- ==== Sys2Proof/Machine/State.lean ====
section
/-! DEFINITION. Everything the spec gives the machine to hold, as plain data, and the machine right after
reset (10_state.md, 50_reversible_stepping.md R200, 51_raster_timing.md R221 to R223). -/

namespace Sys2Proof.Machine

/-- The register file, exactly the eight registers of R20. -/
structure Regs where
  /-- The ROM address of the word being fetched (R21). -/
  pc    : Addr
  /-- The opcode byte of the executing instruction (R22). -/
  ir    : Byte
  /-- The data byte of the executing instruction (R23). -/
  d     : Byte
  /-- The accumulator (R24). -/
  ac    : Byte
  /-- Address register X (R25). -/
  x     : Byte
  /-- Address register Y (R26). -/
  y     : Byte
  /-- The output register (R27). -/
  out   : Byte
  /-- The floating bus (R28). -/
  undef : Byte
deriving DecidableEq, Repr

/-- The at most one RAM access of a cycle (R61). The address is the masked one (D8, log 16). -/
inductive MemEvent where
  | none
  | read (address : RamAddr) (value : Byte)
  | write (address : RamAddr) (previous new : Byte)
deriving DecidableEq, Repr

/-- The invertible record of one cycle (R200). -/
structure CycleEffect where
  /-- The whole register file after the cycle. -/
  regs   : Regs
  /-- The PC before the cycle (R201). -/
  queued : Addr
  /-- The cycle's memory event (R202). -/
  mem    : MemEvent
deriving DecidableEq, Repr

/-- RAM, R33: the bytes that differ from what an unlisted address reads as, by strictly rising address
(`Memory.wf` of Machine/Ops.lean; log 2). -/
abbrev Memory := List Host.Cell

/-- A pixel, the triple of R223. -/
structure Pixel where
  red   : Byte
  green : Byte
  blue  : Byte
deriving DecidableEq, Repr

/-- A framebuffer of R223: the pixels that are not black, by strictly rising index
(`Frame.wf` of Machine/Ops.lean; log 10). -/
abbrev Frame := List (Nat × Pixel)

/-- The four phase lengths of one axis (R221). -/
structure AxisTiming where
  frontPorch : Nat
  pulse      : Nat
  backPorch  : Nat
  visible    : Nat
deriving DecidableEq, Repr

/-- `H_TIMING` in columns and `V_TIMING` in lines (R221). -/
structure Timing where
  h : AxisTiming
  v : AxisTiming
deriving DecidableEq, Repr

/-- The state of the raster timing interpreter (R223). `line`, `col` and `cursor` are unbounded
(the spec's decision D16, log 9). -/
structure Rti where
  prev   : Byte
  line   : Int
  col    : Nat
  cursor : Nat
  back   : Frame
  front  : Frame
deriving DecidableEq, Repr

/-- The machine. -/
structure State where
  /-- The register file (R20). -/
  regs      : Regs
  /-- The RAM (R33). -/
  ram       : Memory
  /-- The loaded ROM image (R32, R66): word k of the list is ROM word k; past its end ROM holds
  `Config.romFill`. No step changes it. -/
  rom       : List RomWord
  /-- The raster timing interpreter (R223). -/
  rti       : Rti
  /-- The RTI's configuration (R221). No step changes it. -/
  timing    : Timing
  /-- The model's own: the input bytes the host supplies for the coming cycles, the next cycle's first
  (R31; log 6). -/
  inputs    : List Byte
  /-- The model's own: the entropy draws the host supplies for the coming cycles, the next cycle's first
  (R6; 40_execution_cycle.md R135; 60_exceptions.md R277; log 5). -/
  draws     : List Byte
  /-- The model's own: the number of the coming cycle, which names its free values (log 5). -/
  cycle     : Nat
  /-- Output: the CycleEffect of the last cycle (R6, R200; log 17). -/
  effect    : Option CycleEffect
  /-- Output: the RTI's `render` of the last cycle (R236; log 17). -/
  render    : Bool
  /-- Output: the RTI's `violation` of the last cycle (R236; log 17). -/
  violation : Bool
deriving DecidableEq, Repr

/-- The machine raises no exception and never stops (60_exceptions.md R260, R264, R276), so there is no
fault to name: nobody raises one, which is safe, for the spec says that none exists (log 18). -/
inductive Fault where
deriving DecidableEq, Repr

/-- Why a step has no meaning. -/
inductive Refusal where
  /-- Raised by `exec` for an instruction that has no meaning yet. Safe: nothing is claimed of it. No
  instruction is left in this case. -/
  | notModelled (mnemonic : String)
deriving DecidableEq, Repr

/-- The source's example mode, `H = (16, 96, 48, 640)` and `V = (6, 8, 27, 480)` (R221). -/
def exampleTiming : Timing where
  h := ⟨16, 96, 48, 640⟩
  v := ⟨6, 8, 27, 480⟩

/-- The RTI at construction (R234: the spec's decision D17, log 9). -/
def Rti.initial : Rti where
  prev   := 0x00
  line   := -1
  col    := 0
  cursor := 0
  back   := []
  front  := []

/-- The register file of `State.reset`: PC by R290 (D5, log 3); the other seven registers hold "any" value
after a hard reset, and zero is this model's DESIGN CHOICE, unsafe (log 1). -/
def Regs.initial : Regs where
  pc    := Config.hardResetPc
  ir    := 0x00
  d     := 0x00
  ac    := 0x00
  x     := 0x00
  y     := 0x00
  out   := 0x00
  undef := 0x00

/-- The machine right after construction and hard reset (R36, R234, R290): no ROM image loaded, no input byte
and no draw supplied, no cycle run. It is the instance of `hardReset` whose draws are all zero (log 1, log 2). -/
def State.reset : State where
  regs      := Regs.initial
  ram       := []
  rom       := []
  rti       := Rti.initial
  timing    := exampleTiming
  inputs    := []
  draws     := []
  cycle     := 0
  effect    := none
  render    := false
  violation := false

end Sys2Proof.Machine
end

