-- ==== Sys2Proof/Machine/Ops.lean ====
section
/-! DEFINITION. The named operations over memories and registers: sparse stores, RAM, ROM, the input byte and
the draw of a cycle, register write-back, the instruction latch, and applying and inverting a CycleEffect
(20_memory.md, 40_execution_cycle.md, 50_reversible_stepping.md).

TAKING AN EXCEPTION, and the return from one, would stand here. The machine has neither: "There is no trap
entry: nothing is ever saved" (60_exceptions.md R264), and no trap-return instruction (R265; log 18). -/

namespace Sys2Proof.Machine

/-! ### Sparse stores: a list of (index, value) pairs by strictly rising index, no value the default -/

/-- The value at index `a`, the default where none is listed. -/
def sparseRead {α : Type} (dflt : α) : List (Nat × α) → Nat → α
  | [], _ => dflt
  | (b, v) :: l, a => if a = b then v else sparseRead dflt l a

/-- The store without its entries at index `a`. -/
def sparseErase {α : Type} (l : List (Nat × α)) (a : Nat) : List (Nat × α) :=
  l.filter fun c => !(c.1 == a)

/-- Puts an entry before the first entry of a higher index. -/
def sparseInsert {α : Type} : List (Nat × α) → Nat → α → List (Nat × α)
  | [], a, v => [(a, v)]
  | (b, w) :: l, a, v => if a < b then (a, v) :: (b, w) :: l else (b, w) :: sparseInsert l a v

/-- Writes one value. Writing the default removes the entry. -/
def sparseWrite {α : Type} [DecidableEq α] (dflt : α) (l : List (Nat × α)) (a : Nat) (v : α) :
    List (Nat × α) :=
  if v = dflt then sparseErase l a else sparseInsert (sparseErase l a) a v

/-- The canonical form: strictly rising indices below `bound`, and no entry that holds the default. -/
abbrev sparseWf {α : Type} [DecidableEq α] (dflt : α) (bound : Nat) (l : List (Nat × α)) : Prop :=
  l.Pairwise (fun p q => p.1 < q.1) ∧ ∀ c ∈ l, c.1 < bound ∧ c.2 ≠ dflt

/-! ### RAM (20_memory.md) -/

/-- What a RAM byte that is not listed reads as. R290 leaves every byte unspecified after a hard reset:
DESIGN CHOICE 0x00, unsafe (log 2). -/
def unlistedByte : Byte := 0x00

/-- The canonical form of RAM. -/
abbrev Memory.wf (m : Memory) : Prop := sparseWf unlistedByte Config.ramBytes m

/-- `RAM[a]` (R33). -/
def ramRead (m : Memory) (a : RamAddr) : Byte := sparseRead unlistedByte m a.toNat

/-- `RAM[a] <- v` (R33). -/
def ramWrite (m : Memory) (a : RamAddr) (v : Byte) : Memory := sparseWrite unlistedByte m a.toNat v

/-- Puts the bytes of a list into RAM from address `a` on; a byte past the last address is dropped. -/
def ramFill (m : Memory) (a : Nat) : List Byte → Memory
  | [] => m
  | v :: l => ramFill (if a < Config.ramBytes then sparseWrite unlistedByte m a v else m) (a + 1) l

/-- The RAM index of an effective address: "masked to its low 15 bits" (R52). -/
def ramIndex (a : Addr) : RamAddr := a.setWidth 15

/-! ### Frame buffers (51_raster_timing.md R223) -/

/-- A pixel not listed is black: the initial content of both buffers (R234, D17, log 9). -/
def black : Pixel := ⟨0, 0, 0⟩

/-- The canonical form of a frame buffer of `npix` pixels. -/
abbrev Frame.wf (npix : Nat) (f : Frame) : Prop := sparseWf black npix f

/-- The pixel at a linear index. -/
def frameRead (f : Frame) (k : Nat) : Pixel := sparseRead black f k

/-- Writes the pixel at a linear index. -/
def frameWrite (f : Frame) (k : Nat) (p : Pixel) : Frame := sparseWrite black f k p

/-! ### ROM, input byte, draw -/

/-- `RomRead(a)` (R51): the word of the image, or `ROM_FILL` past its end (R66, log 4). -/
def romRead (rom : List RomWord) (a : Addr) : RomWord :=
  match rom[a.toNat]? with
  | some w => w
  | none => Config.romFill a

/-- `in`, the input byte of the coming cycle (R31, R129): the byte the host supplied for it, or, where the
state holds none, a free value (log 6). -/
def inputByte (s : State) : Byte :=
  match s.inputs with
  | b :: _ => b
  | [] => Config.hostInput s.cycle

/-- `u`, the entropy draw of the coming cycle (R6, R135): the byte the host supplied for it (60_exceptions.md R277;
D30), or, where the state holds none, a free value (log 5). -/
def entropyDraw (s : State) : Byte :=
  match s.draws with
  | u :: _ => u
  | [] => Config.floatingBus s.cycle

/-! ### Registers -/

/-- The result destination an addressing mode chooses (R113). -/
inductive Dest where
  | ac
  | x
  | y
  | out
  | none
deriving DecidableEq, Repr

/-- Step 8 of the cycle: write-back of the ALU result (R132), then the post-increment of X, of the X at the
start of the cycle (R133). -/
def writeBack (dest : Dest) (alu : Byte) (incx : Bool) (r : Regs) : Regs :=
  let r' : Regs :=
    match dest with
    | .ac => { r with ac := alu }
    | .x => { r with x := alu }
    | .y => { r with y := alu }
    | .out => { r with out := alu }
    | .none => r
  if incx then { r' with x := r.x + 1 } else r'

/-- Steps 1, 9 and 10 of the cycle that starts in `s`: PC takes its next value, (IR, D) the word fetched from
the PC of the start of the cycle (R111, R136), UNDEF the draw (R135). -/
def latch (s : State) (nextPc : Addr) (r : Regs) : Regs :=
  let word := romRead s.rom s.regs.pc
  { r with pc := nextPc, ir := word.opcode, d := word.data, undef := entropyDraw s }

/-! ### Reversible stepping (50_reversible_stepping.md) -/

/-- The RAM part of `Apply` (R204): a write event writes its new byte, any other event nothing. -/
def applyMem (e : MemEvent) (m : Memory) : Memory :=
  match e with
  | .none => m
  | .read _ _ => m
  | .write a _ new => ramWrite m a new

/-- The state part of `Apply` (R204): swaps in the register file and performs the memory mutation. It checks
nothing (D10, log 21). -/
def commitEffect (e : CycleEffect) (s : State) : State :=
  { s with regs := e.regs, ram := applyMem e.mem s.ram }

/-- The inverse of a memory event (R205). -/
def invertMem (e : MemEvent) : MemEvent :=
  match e with
  | .none => .none
  | .read a v => .read a v
  | .write a previous new => .write a new previous

/-- `Invert(E, R)` (R205). It keeps `queued` (the spec's decision D9, log 21). -/
def invertEffect (e : CycleEffect) (r : Regs) : CycleEffect where
  regs   := r
  queued := e.queued
  mem    := invertMem e.mem

/-- `Apply(E, (R, M))` (R204): the new state and the inverse effect. -/
def applyEffect (e : CycleEffect) (s : State) : State × CycleEffect :=
  (commitEffect e s, invertEffect e s.regs)

/-- `Advance` (R206) with the effect of the cycle in hand: the state is changed by it, and the effect is the
cycle's output (R6). -/
def advance (e : CycleEffect) (s : State) : State :=
  { (applyEffect e s).1 with effect := some e }

end Sys2Proof.Machine
end

