-- ==== Sys2Proof/Machine/Operands.lean ====
section
/-! DEFINITION. The operand forms: the addressing-mode multiplexer (40_execution_cycle.md R113 to R123) and
the bus multiplexer (R124 to R129). -/

namespace Sys2Proof.Machine

/-- The high byte of the effective address, R114 to R121. The zero of modes 0, 1, 5 and 6 is the spec's
decision D4 (log 13). -/
def modeHi (m : Mode) (r : Regs) : Byte :=
  match m with
  | .dToAc => 0x00
  | .xToAc => 0x00
  | .ydToAc => r.y
  | .yxToAc => r.y
  | .dToX => 0x00
  | .dToY => 0x00
  | .dToOut => 0x00
  | .yxIncToOut => r.y

/-- The low byte of the effective address, R114 to R121. -/
def modeLo (m : Mode) (r : Regs) : Byte :=
  match m with
  | .dToAc => r.d
  | .xToAc => r.x
  | .ydToAc => r.d
  | .yxToAc => r.x
  | .dToX => r.d
  | .dToY => r.d
  | .dToOut => r.d
  | .yxIncToOut => r.x

/-- The result destination, R114 to R121. -/
def modeDest (m : Mode) : Dest :=
  match m with
  | .dToAc => .ac
  | .xToAc => .ac
  | .ydToAc => .ac
  | .yxToAc => .ac
  | .dToX => .x
  | .dToY => .y
  | .dToOut => .out
  | .yxIncToOut => .out

/-- Whether X is post-incremented, R114 to R121. -/
def modeIncX (m : Mode) : Bool :=
  match m with
  | .dToAc => false
  | .xToAc => false
  | .ydToAc => false
  | .yxToAc => false
  | .dToX => false
  | .dToY => false
  | .dToOut => false
  | .yxIncToOut => true

/-- Destination masking on a store: AC and OUT are suppressed, X and Y are not (R123). -/
def maskDest (dest : Dest) : Dest :=
  match dest with
  | .ac => .none
  | .x => .x
  | .y => .y
  | .out => .none
  | .none => .none

/-- The RAM index of a non-jump instruction: `{hi, lo}` masked (R52, R113), from the registers at the start
of the cycle. -/
def operandAddress (m : Mode) (r : Regs) : RamAddr := ramIndex (modeHi m r ++ modeLo m r)

/-- The RAM index of a jump whose bus field is Ram: `{0x00, D}` (R122: the spec's decision D3, log 14). -/
def jumpAddress (r : Regs) : RamAddr := ramIndex ((0x00 : Byte) ++ r.d)

/-- The bus value of an instruction that is not a store (R125, R126, R128, R129); `a` is its RAM index. -/
def busValue (b : Bus) (a : RamAddr) (s : State) : Byte :=
  match b with
  | .data => s.regs.d
  | .ram => ramRead s.ram a
  | .ac => s.regs.ac
  | .input => inputByte s

/-- The memory event of an instruction that is not a store: a read exactly when the bus field is Ram
(R56, R126, R202). -/
def busEvent (b : Bus) (a : RamAddr) (s : State) : MemEvent :=
  match b with
  | .data => .none
  | .ram => .read a (ramRead s.ram a)
  | .ac => .none
  | .input => .none

/-- The bus value of a store: with bus field Ram it is UNDEF as it stood at the start of the cycle
(R127, R170; D7, log 15). -/
def storeValue (b : Bus) (s : State) : Byte :=
  match b with
  | .data => s.regs.d
  | .ram => s.regs.undef
  | .ac => s.regs.ac
  | .input => inputByte s

end Sys2Proof.Machine
end

