-- ==== Sys2Proof/Machine/Alu.lean ====
section
/-! DEFINITION. The ALU (40_execution_cycle.md R131; 41_alu.md R150 to R156). -/

namespace Sys2Proof.Machine

/-- The operations whose ALU result is defined. For a jump the ALU computes nothing (R131: the spec's
decision D29, log 20). -/
inductive AluOp where
  | load
  | and
  | or
  | xor
  | add
  | sub
  | store
deriving DecidableEq, Repr

/-- The ALU result, from AC and the bus value (R131): sums and differences wrap modulo 256 (R156), and a
store passes AC through. No carry or borrow leaves it (10_state.md R29). -/
def aluResult (op : AluOp) (ac b : Byte) : Byte :=
  match op with
  | .load => b
  | .and => ac &&& b
  | .or => ac ||| b
  | .xor => ac ^^^ b
  | .add => ac + b
  | .sub => ac - b
  | .store => ac

end Sys2Proof.Machine
end

