-- ==== Sys2Proof/Machine/Flags.lean ====
section
/-! DEFINITION. The branch conditions. The machine has no flags register (10_state.md R29): the conditions are
computed from AC in the cycle in which the jump executes (43_jump.md R180). -/

namespace Sys2Proof.Machine

/-- `accumulator_sign`: the accumulator's high bit (R180). -/
def accumulatorSign (ac : Byte) : Bool := ac.getLsbD 7

/-- `is_zero` (R180). -/
def isZero (ac : Byte) : Bool := ac == 0

/-- The index `c = S.AC[7] + 2*(S.AC == 0 ? 1 : 0)` (R180). -/
def conditionIndex (ac : Byte) : Nat := (accumulatorSign ac).toNat + 2 * (isZero ac).toNat

/-- `taken = (mode[c] == 1)` (R180); `mask` is the mode field of a conditional branch (30_encoding.md R84). -/
def branchTaken (mask : BitVec 3) (ac : Byte) : Bool := mask.getLsbD (conditionIndex ac)

end Sys2Proof.Machine
end

