-- ==== Sys2Proof/Machine/Raster.lean ====
section
/-! DEFINITION. The raster timing interpreter (51_raster_timing.md). -/

namespace Sys2Proof.Machine

/-- `HTOTAL` (R222). -/
def hTotal (t : Timing) : Nat := t.h.frontPorch + t.h.pulse + t.h.backPorch + t.h.visible

/-- The first position of the visible window of an axis: `hstart`, `vstart` (R222). -/
def windowStart (a : AxisTiming) : Nat := a.backPorch + a.pulse

/-- The position after the visible window of an axis: `hend`, `vend` (R222). -/
def windowEnd (a : AxisTiming) : Nat := windowStart a + a.visible

/-- `NPIX` (R222). -/
def pixelCount (t : Timing) : Nat := t.h.visible * t.v.visible

/-- One channel: two bits times 85 (R224). -/
def channel (v : BitVec 2) : Byte := Config.colourScale * v.setWidth 8

/-- The colour of an OUT byte: red in bits 1:0, green in 3:2, blue in 5:4 (R27, R224; D2, log 12). -/
def colour (o : Byte) : Pixel where
  red   := channel (o.extractLsb' 0 2)
  green := channel (o.extractLsb' 2 2)
  blue  := channel (o.extractLsb' 4 2)

/-- `fall = prev & ~o` (R225). -/
def fallingBits (prev o : Byte) : Byte := prev &&& ~~~o

/-- A falling edge of the vertical sync bit, bit 7 (R225). -/
def verticalFall (prev o : Byte) : Bool := (fallingBits prev o).getLsbD 7

/-- A falling edge of the horizontal sync bit, bit 6 (R225). -/
def horizontalFall (prev o : Byte) : Bool := (fallingBits prev o).getLsbD 6

/-- The action of a vertical falling edge (R226, R235): present, and start a new frame. -/
def beginFrame (r : Rti) : Rti := { r with front := r.back, line := -1, cursor := 0 }

/-- The action of a horizontal falling edge on the counters (R227). -/
def beginLine (r : Rti) : Rti := { r with col := 0, line := r.line + 1 }

/-- The visibility test (R229). -/
def visibleAt (t : Timing) (line : Int) (col : Nat) : Bool :=
  decide ((windowStart t.v : Int) ≤ line ∧ line < (windowEnd t.v : Int) ∧
    windowStart t.h ≤ col ∧ col < windowEnd t.h)

/-- Writes `count` pixels from index `k` on; a write at or past `npix` is dropped (R230: D19, log 10). -/
def paintPixels (npix : Nat) (p : Pixel) : Nat → Nat → Frame → Frame
  | 0, _, f => f
  | count + 1, k, f => paintPixels npix p count (k + 1) (if k < npix then frameWrite f k p else f)

/-- Painting a visible cycle: four duplicate pixels at the cursor, and the cursor moves by four (R230). -/
def paint (t : Timing) (o : Byte) (r : Rti) : Rti :=
  { r with
    back := paintPixels (pixelCount t) (colour o) Config.columnsPerCycle r.cursor r.back
    cursor := r.cursor + Config.columnsPerCycle }

/-- What one RTI step answers: the new state and the two outputs of the cycle (R236). -/
structure RtiResult where
  rti       : Rti
  render    : Bool
  violation : Bool
deriving DecidableEq, Repr

/-- The edge actions of a cycle, vertical first (R226, R227, R233; D14, D15, log 24). -/
def edgeActions (o : Byte) (r : Rti) : Rti :=
  let r1 := if verticalFall r.prev o then beginFrame r else r
  if horizontalFall r.prev o then beginLine r1 else r1

/-- The RTI step (R237), in the order of R233 (the spec's decision D14, log 24). -/
def rtiStep (t : Timing) (r : Rti) (o : Byte) : RtiResult :=
  let e := edgeActions o r
  let p := if visibleAt t e.line e.col then paint t o e else e
  { rti := { p with col := p.col + Config.columnsPerCycle, prev := o }
    render := verticalFall r.prev o
    violation := horizontalFall r.prev o && r.col != hTotal t }

end Sys2Proof.Machine
end

