-- ==== Sys2Proof/Machine/Cycle.lean ====
section
/-! DEFINITION. The cycle of the three shapes of instruction, as the CycleEffect it produces (`StepEffect`,
50_reversible_stepping.md R203), and what the system adds around the CPU's part of a cycle
(51_raster_timing.md R238). The meanings call these. -/

namespace Sys2Proof.Machine

/-- `(S.PC + 1) mod 65536` (R134). -/
def sequentialPc (s : State) : Addr := s.regs.pc + 1

/-- `{S.PC[15:8], b}`: a target within the page of the word being fetched (43_jump.md R190). -/
def pageTarget (s : State) (b : Byte) : Addr := s.regs.pc.extractLsb' 8 8 ++ b

/-- The cycle of LD, AND, OR, XOR, ADD and SUB (41_alu.md R150 to R155). -/
def aluEffect (op : AluOp) (m : Mode) (b : Bus) (s : State) : CycleEffect :=
  let a := operandAddress m s.regs
  let alu := aluResult op s.regs.ac (busValue b a s)
  { regs := latch s (sequentialPc s) (writeBack (modeDest m) alu (modeIncX m) s.regs)
    queued := s.regs.pc
    mem := busEvent b a s }

/-- The cycle of ST (42_store.md R170): the byte stored is the bus value, the register result is AC. -/
def storeEffect (m : Mode) (b : Bus) (s : State) : CycleEffect :=
  let a := operandAddress m s.regs
  let v := storeValue b s
  let alu := aluResult .store s.regs.ac v
  { regs := latch s (sequentialPc s) (writeBack (maskDest (modeDest m)) alu (modeIncX m) s.regs)
    queued := s.regs.pc
    mem := .write a (ramRead s.ram a) v }

/-- The cycle of JMP: the far target is `{S.Y, b}` (43_jump.md R181). -/
def farJumpEffect (b : Bus) (s : State) : CycleEffect :=
  let a := jumpAddress s.regs
  { regs := latch s (s.regs.y ++ busValue b a s) s.regs
    queued := s.regs.pc
    mem := busEvent b a s }

/-- The cycle of a conditional branch and of BRA, with its mask (43_jump.md R180, R182 to R188). The RAM read of
bus field Ram happens whether or not the branch is taken (R126, R193). -/
def branchEffect (mask : BitVec 3) (b : Bus) (s : State) : CycleEffect :=
  let a := jumpAddress s.regs
  let target := if branchTaken mask s.regs.ac then pageTarget s (busValue b a s) else sequentialPc s
  { regs := latch s target s.regs
    queued := s.regs.pc
    mem := busEvent b a s }

/-- The rest of a system cycle, after the CPU's part (R238): the RTI steps on the new OUT, and the host's input
byte, its draw and the cycle's number have been used up (log 5, log 6). -/
def endCycle (t : State) : State :=
  let r := rtiStep t.timing t.rti t.regs.out
  { t with
    rti := r.rti
    render := r.render
    violation := r.violation
    inputs := t.inputs.tail
    draws := t.draws.tail
    cycle := t.cycle + 1 }

end Sys2Proof.Machine
end

