-- ==== Sys2Proof/Machine/Arith.lean ====
section
/-! DEFINITION. The meanings of ADD and SUB (41_alu.md R154 to R156): one definition per row of the opcode table, each its row's
operation, mode and bus source over the shared cycle of Machine/Cycle.lean. No form faults or is refused
(60_exceptions.md R260). -/

namespace Sys2Proof.Machine

/-- `ADD D, [D]>AC`, opcode byte 0x80 (R154, R114, R125). -/
def execAddD_dToAc (s : State) : Host.Outcome State Fault Refusal :=
  .next (advance (aluEffect .add .dToAc .data s) s)

/-- `ADD RAM, [D]>AC`, opcode byte 0x81 (R154, R114, R126). -/
def execAddRam_dToAc (s : State) : Host.Outcome State Fault Refusal :=
  .next (advance (aluEffect .add .dToAc .ram s) s)

/-- `ADD AC, [D]>AC`, opcode byte 0x82 (R154, R114, R128). -/
def execAddAc_dToAc (s : State) : Host.Outcome State Fault Refusal :=
  .next (advance (aluEffect .add .dToAc .ac s) s)

/-- `ADD IN, [D]>AC`, opcode byte 0x83 (R154, R114, R129). -/
def execAddIn_dToAc (s : State) : Host.Outcome State Fault Refusal :=
  .next (advance (aluEffect .add .dToAc .input s) s)

/-- `ADD D, [X]>AC`, opcode byte 0x84 (R154, R115, R125). -/
def execAddD_xToAc (s : State) : Host.Outcome State Fault Refusal :=
  .next (advance (aluEffect .add .xToAc .data s) s)

/-- `ADD RAM, [X]>AC`, opcode byte 0x85 (R154, R115, R126). -/
def execAddRam_xToAc (s : State) : Host.Outcome State Fault Refusal :=
  .next (advance (aluEffect .add .xToAc .ram s) s)

/-- `ADD AC, [X]>AC`, opcode byte 0x86 (R154, R115, R128). -/
def execAddAc_xToAc (s : State) : Host.Outcome State Fault Refusal :=
  .next (advance (aluEffect .add .xToAc .ac s) s)

/-- `ADD IN, [X]>AC`, opcode byte 0x87 (R154, R115, R129). -/
def execAddIn_xToAc (s : State) : Host.Outcome State Fault Refusal :=
  .next (advance (aluEffect .add .xToAc .input s) s)

/-- `ADD D, [Y:D]>AC`, opcode byte 0x88 (R154, R116, R125). -/
def execAddD_ydToAc (s : State) : Host.Outcome State Fault Refusal :=
  .next (advance (aluEffect .add .ydToAc .data s) s)

/-- `ADD RAM, [Y:D]>AC`, opcode byte 0x89 (R154, R116, R126). -/
def execAddRam_ydToAc (s : State) : Host.Outcome State Fault Refusal :=
  .next (advance (aluEffect .add .ydToAc .ram s) s)

/-- `ADD AC, [Y:D]>AC`, opcode byte 0x8A (R154, R116, R128). -/
def execAddAc_ydToAc (s : State) : Host.Outcome State Fault Refusal :=
  .next (advance (aluEffect .add .ydToAc .ac s) s)

/-- `ADD IN, [Y:D]>AC`, opcode byte 0x8B (R154, R116, R129). -/
def execAddIn_ydToAc (s : State) : Host.Outcome State Fault Refusal :=
  .next (advance (aluEffect .add .ydToAc .input s) s)

/-- `ADD D, [Y:X]>AC`, opcode byte 0x8C (R154, R117, R125). -/
def execAddD_yxToAc (s : State) : Host.Outcome State Fault Refusal :=
  .next (advance (aluEffect .add .yxToAc .data s) s)

/-- `ADD RAM, [Y:X]>AC`, opcode byte 0x8D (R154, R117, R126). -/
def execAddRam_yxToAc (s : State) : Host.Outcome State Fault Refusal :=
  .next (advance (aluEffect .add .yxToAc .ram s) s)

/-- `ADD AC, [Y:X]>AC`, opcode byte 0x8E (R154, R117, R128). -/
def execAddAc_yxToAc (s : State) : Host.Outcome State Fault Refusal :=
  .next (advance (aluEffect .add .yxToAc .ac s) s)

/-- `ADD IN, [Y:X]>AC`, opcode byte 0x8F (R154, R117, R129). -/
def execAddIn_yxToAc (s : State) : Host.Outcome State Fault Refusal :=
  .next (advance (aluEffect .add .yxToAc .input s) s)

/-- `ADD D, [D]>X`, opcode byte 0x90 (R154, R118, R125). -/
def execAddD_dToX (s : State) : Host.Outcome State Fault Refusal :=
  .next (advance (aluEffect .add .dToX .data s) s)

/-- `ADD RAM, [D]>X`, opcode byte 0x91 (R154, R118, R126). -/
def execAddRam_dToX (s : State) : Host.Outcome State Fault Refusal :=
  .next (advance (aluEffect .add .dToX .ram s) s)

/-- `ADD AC, [D]>X`, opcode byte 0x92 (R154, R118, R128). -/
def execAddAc_dToX (s : State) : Host.Outcome State Fault Refusal :=
  .next (advance (aluEffect .add .dToX .ac s) s)

/-- `ADD IN, [D]>X`, opcode byte 0x93 (R154, R118, R129). -/
def execAddIn_dToX (s : State) : Host.Outcome State Fault Refusal :=
  .next (advance (aluEffect .add .dToX .input s) s)

/-- `ADD D, [D]>Y`, opcode byte 0x94 (R154, R119, R125). -/
def execAddD_dToY (s : State) : Host.Outcome State Fault Refusal :=
  .next (advance (aluEffect .add .dToY .data s) s)

/-- `ADD RAM, [D]>Y`, opcode byte 0x95 (R154, R119, R126). -/
def execAddRam_dToY (s : State) : Host.Outcome State Fault Refusal :=
  .next (advance (aluEffect .add .dToY .ram s) s)

/-- `ADD AC, [D]>Y`, opcode byte 0x96 (R154, R119, R128). -/
def execAddAc_dToY (s : State) : Host.Outcome State Fault Refusal :=
  .next (advance (aluEffect .add .dToY .ac s) s)

/-- `ADD IN, [D]>Y`, opcode byte 0x97 (R154, R119, R129). -/
def execAddIn_dToY (s : State) : Host.Outcome State Fault Refusal :=
  .next (advance (aluEffect .add .dToY .input s) s)

/-- `ADD D, [D]>OUT`, opcode byte 0x98 (R154, R120, R125). -/
def execAddD_dToOut (s : State) : Host.Outcome State Fault Refusal :=
  .next (advance (aluEffect .add .dToOut .data s) s)

/-- `ADD RAM, [D]>OUT`, opcode byte 0x99 (R154, R120, R126). -/
def execAddRam_dToOut (s : State) : Host.Outcome State Fault Refusal :=
  .next (advance (aluEffect .add .dToOut .ram s) s)

/-- `ADD AC, [D]>OUT`, opcode byte 0x9A (R154, R120, R128). -/
def execAddAc_dToOut (s : State) : Host.Outcome State Fault Refusal :=
  .next (advance (aluEffect .add .dToOut .ac s) s)

/-- `ADD IN, [D]>OUT`, opcode byte 0x9B (R154, R120, R129). -/
def execAddIn_dToOut (s : State) : Host.Outcome State Fault Refusal :=
  .next (advance (aluEffect .add .dToOut .input s) s)

/-- `ADD D, [Y:X++]>OUT`, opcode byte 0x9C (R154, R121, R125). -/
def execAddD_yxIncToOut (s : State) : Host.Outcome State Fault Refusal :=
  .next (advance (aluEffect .add .yxIncToOut .data s) s)

/-- `ADD RAM, [Y:X++]>OUT`, opcode byte 0x9D (R154, R121, R126). -/
def execAddRam_yxIncToOut (s : State) : Host.Outcome State Fault Refusal :=
  .next (advance (aluEffect .add .yxIncToOut .ram s) s)

/-- `ADD AC, [Y:X++]>OUT`, opcode byte 0x9E (R154, R121, R128). -/
def execAddAc_yxIncToOut (s : State) : Host.Outcome State Fault Refusal :=
  .next (advance (aluEffect .add .yxIncToOut .ac s) s)

/-- `ADD IN, [Y:X++]>OUT`, opcode byte 0x9F (R154, R121, R129). -/
def execAddIn_yxIncToOut (s : State) : Host.Outcome State Fault Refusal :=
  .next (advance (aluEffect .add .yxIncToOut .input s) s)

/-- `SUB D, [D]>AC`, opcode byte 0xA0 (R155, R114, R125). -/
def execSubD_dToAc (s : State) : Host.Outcome State Fault Refusal :=
  .next (advance (aluEffect .sub .dToAc .data s) s)

/-- `SUB RAM, [D]>AC`, opcode byte 0xA1 (R155, R114, R126). -/
def execSubRam_dToAc (s : State) : Host.Outcome State Fault Refusal :=
  .next (advance (aluEffect .sub .dToAc .ram s) s)

/-- `SUB AC, [D]>AC`, opcode byte 0xA2 (R155, R114, R128). -/
def execSubAc_dToAc (s : State) : Host.Outcome State Fault Refusal :=
  .next (advance (aluEffect .sub .dToAc .ac s) s)

/-- `SUB IN, [D]>AC`, opcode byte 0xA3 (R155, R114, R129). -/
def execSubIn_dToAc (s : State) : Host.Outcome State Fault Refusal :=
  .next (advance (aluEffect .sub .dToAc .input s) s)

/-- `SUB D, [X]>AC`, opcode byte 0xA4 (R155, R115, R125). -/
def execSubD_xToAc (s : State) : Host.Outcome State Fault Refusal :=
  .next (advance (aluEffect .sub .xToAc .data s) s)

/-- `SUB RAM, [X]>AC`, opcode byte 0xA5 (R155, R115, R126). -/
def execSubRam_xToAc (s : State) : Host.Outcome State Fault Refusal :=
  .next (advance (aluEffect .sub .xToAc .ram s) s)

/-- `SUB AC, [X]>AC`, opcode byte 0xA6 (R155, R115, R128). -/
def execSubAc_xToAc (s : State) : Host.Outcome State Fault Refusal :=
  .next (advance (aluEffect .sub .xToAc .ac s) s)

/-- `SUB IN, [X]>AC`, opcode byte 0xA7 (R155, R115, R129). -/
def execSubIn_xToAc (s : State) : Host.Outcome State Fault Refusal :=
  .next (advance (aluEffect .sub .xToAc .input s) s)

/-- `SUB D, [Y:D]>AC`, opcode byte 0xA8 (R155, R116, R125). -/
def execSubD_ydToAc (s : State) : Host.Outcome State Fault Refusal :=
  .next (advance (aluEffect .sub .ydToAc .data s) s)

/-- `SUB RAM, [Y:D]>AC`, opcode byte 0xA9 (R155, R116, R126). -/
def execSubRam_ydToAc (s : State) : Host.Outcome State Fault Refusal :=
  .next (advance (aluEffect .sub .ydToAc .ram s) s)

/-- `SUB AC, [Y:D]>AC`, opcode byte 0xAA (R155, R116, R128). -/
def execSubAc_ydToAc (s : State) : Host.Outcome State Fault Refusal :=
  .next (advance (aluEffect .sub .ydToAc .ac s) s)

/-- `SUB IN, [Y:D]>AC`, opcode byte 0xAB (R155, R116, R129). -/
def execSubIn_ydToAc (s : State) : Host.Outcome State Fault Refusal :=
  .next (advance (aluEffect .sub .ydToAc .input s) s)

/-- `SUB D, [Y:X]>AC`, opcode byte 0xAC (R155, R117, R125). -/
def execSubD_yxToAc (s : State) : Host.Outcome State Fault Refusal :=
  .next (advance (aluEffect .sub .yxToAc .data s) s)

/-- `SUB RAM, [Y:X]>AC`, opcode byte 0xAD (R155, R117, R126). -/
def execSubRam_yxToAc (s : State) : Host.Outcome State Fault Refusal :=
  .next (advance (aluEffect .sub .yxToAc .ram s) s)

/-- `SUB AC, [Y:X]>AC`, opcode byte 0xAE (R155, R117, R128). -/
def execSubAc_yxToAc (s : State) : Host.Outcome State Fault Refusal :=
  .next (advance (aluEffect .sub .yxToAc .ac s) s)

/-- `SUB IN, [Y:X]>AC`, opcode byte 0xAF (R155, R117, R129). -/
def execSubIn_yxToAc (s : State) : Host.Outcome State Fault Refusal :=
  .next (advance (aluEffect .sub .yxToAc .input s) s)

/-- `SUB D, [D]>X`, opcode byte 0xB0 (R155, R118, R125). -/
def execSubD_dToX (s : State) : Host.Outcome State Fault Refusal :=
  .next (advance (aluEffect .sub .dToX .data s) s)

/-- `SUB RAM, [D]>X`, opcode byte 0xB1 (R155, R118, R126). -/
def execSubRam_dToX (s : State) : Host.Outcome State Fault Refusal :=
  .next (advance (aluEffect .sub .dToX .ram s) s)

/-- `SUB AC, [D]>X`, opcode byte 0xB2 (R155, R118, R128). -/
def execSubAc_dToX (s : State) : Host.Outcome State Fault Refusal :=
  .next (advance (aluEffect .sub .dToX .ac s) s)

/-- `SUB IN, [D]>X`, opcode byte 0xB3 (R155, R118, R129). -/
def execSubIn_dToX (s : State) : Host.Outcome State Fault Refusal :=
  .next (advance (aluEffect .sub .dToX .input s) s)

/-- `SUB D, [D]>Y`, opcode byte 0xB4 (R155, R119, R125). -/
def execSubD_dToY (s : State) : Host.Outcome State Fault Refusal :=
  .next (advance (aluEffect .sub .dToY .data s) s)

/-- `SUB RAM, [D]>Y`, opcode byte 0xB5 (R155, R119, R126). -/
def execSubRam_dToY (s : State) : Host.Outcome State Fault Refusal :=
  .next (advance (aluEffect .sub .dToY .ram s) s)

/-- `SUB AC, [D]>Y`, opcode byte 0xB6 (R155, R119, R128). -/
def execSubAc_dToY (s : State) : Host.Outcome State Fault Refusal :=
  .next (advance (aluEffect .sub .dToY .ac s) s)

/-- `SUB IN, [D]>Y`, opcode byte 0xB7 (R155, R119, R129). -/
def execSubIn_dToY (s : State) : Host.Outcome State Fault Refusal :=
  .next (advance (aluEffect .sub .dToY .input s) s)

/-- `SUB D, [D]>OUT`, opcode byte 0xB8 (R155, R120, R125). -/
def execSubD_dToOut (s : State) : Host.Outcome State Fault Refusal :=
  .next (advance (aluEffect .sub .dToOut .data s) s)

/-- `SUB RAM, [D]>OUT`, opcode byte 0xB9 (R155, R120, R126). -/
def execSubRam_dToOut (s : State) : Host.Outcome State Fault Refusal :=
  .next (advance (aluEffect .sub .dToOut .ram s) s)

/-- `SUB AC, [D]>OUT`, opcode byte 0xBA (R155, R120, R128). -/
def execSubAc_dToOut (s : State) : Host.Outcome State Fault Refusal :=
  .next (advance (aluEffect .sub .dToOut .ac s) s)

/-- `SUB IN, [D]>OUT`, opcode byte 0xBB (R155, R120, R129). -/
def execSubIn_dToOut (s : State) : Host.Outcome State Fault Refusal :=
  .next (advance (aluEffect .sub .dToOut .input s) s)

/-- `SUB D, [Y:X++]>OUT`, opcode byte 0xBC (R155, R121, R125). -/
def execSubD_yxIncToOut (s : State) : Host.Outcome State Fault Refusal :=
  .next (advance (aluEffect .sub .yxIncToOut .data s) s)

/-- `SUB RAM, [Y:X++]>OUT`, opcode byte 0xBD (R155, R121, R126). -/
def execSubRam_yxIncToOut (s : State) : Host.Outcome State Fault Refusal :=
  .next (advance (aluEffect .sub .yxIncToOut .ram s) s)

/-- `SUB AC, [Y:X++]>OUT`, opcode byte 0xBE (R155, R121, R128). -/
def execSubAc_yxIncToOut (s : State) : Host.Outcome State Fault Refusal :=
  .next (advance (aluEffect .sub .yxIncToOut .ac s) s)

/-- `SUB IN, [Y:X++]>OUT`, opcode byte 0xBF (R155, R121, R129). -/
def execSubIn_yxIncToOut (s : State) : Host.Outcome State Fault Refusal :=
  .next (advance (aluEffect .sub .yxIncToOut .input s) s)

end Sys2Proof.Machine
end

