-- ==== Sys2Proof/Machine/Jump.lean ====
section
/-! DEFINITION. The meanings of JMP and the branches (43_jump.md R180 to R194): one definition per row of the opcode table, each its row's
operation, mode and bus source over the shared cycle of Machine/Cycle.lean. No form faults or is refused
(60_exceptions.md R260). -/

namespace Sys2Proof.Machine

/-- `JMP D`, opcode byte 0xE0 (R181, R122, R125). -/
def execJmpD (s : State) : Host.Outcome State Fault Refusal :=
  .next (advance (farJumpEffect .data s) s)

/-- `JMP RAM`, opcode byte 0xE1 (R181, R122, R126). -/
def execJmpRam (s : State) : Host.Outcome State Fault Refusal :=
  .next (advance (farJumpEffect .ram s) s)

/-- `JMP AC`, opcode byte 0xE2 (R181, R122, R128). -/
def execJmpAc (s : State) : Host.Outcome State Fault Refusal :=
  .next (advance (farJumpEffect .ac s) s)

/-- `JMP IN`, opcode byte 0xE3 (R181, R122, R129). -/
def execJmpIn (s : State) : Host.Outcome State Fault Refusal :=
  .next (advance (farJumpEffect .input s) s)

/-- `BGT D`, opcode byte 0xE4 (R182, R122, R125). -/
def execBgtD (s : State) : Host.Outcome State Fault Refusal :=
  .next (advance (branchEffect 0b001 .data s) s)

/-- `BGT RAM`, opcode byte 0xE5 (R182, R122, R126). -/
def execBgtRam (s : State) : Host.Outcome State Fault Refusal :=
  .next (advance (branchEffect 0b001 .ram s) s)

/-- `BGT AC`, opcode byte 0xE6 (R182, R122, R128). -/
def execBgtAc (s : State) : Host.Outcome State Fault Refusal :=
  .next (advance (branchEffect 0b001 .ac s) s)

/-- `BGT IN`, opcode byte 0xE7 (R182, R122, R129). -/
def execBgtIn (s : State) : Host.Outcome State Fault Refusal :=
  .next (advance (branchEffect 0b001 .input s) s)

/-- `BLT D`, opcode byte 0xE8 (R183, R122, R125). -/
def execBltD (s : State) : Host.Outcome State Fault Refusal :=
  .next (advance (branchEffect 0b010 .data s) s)

/-- `BLT RAM`, opcode byte 0xE9 (R183, R122, R126). -/
def execBltRam (s : State) : Host.Outcome State Fault Refusal :=
  .next (advance (branchEffect 0b010 .ram s) s)

/-- `BLT AC`, opcode byte 0xEA (R183, R122, R128). -/
def execBltAc (s : State) : Host.Outcome State Fault Refusal :=
  .next (advance (branchEffect 0b010 .ac s) s)

/-- `BLT IN`, opcode byte 0xEB (R183, R122, R129). -/
def execBltIn (s : State) : Host.Outcome State Fault Refusal :=
  .next (advance (branchEffect 0b010 .input s) s)

/-- `BNE D`, opcode byte 0xEC (R184, R122, R125). -/
def execBneD (s : State) : Host.Outcome State Fault Refusal :=
  .next (advance (branchEffect 0b011 .data s) s)

/-- `BNE RAM`, opcode byte 0xED (R184, R122, R126). -/
def execBneRam (s : State) : Host.Outcome State Fault Refusal :=
  .next (advance (branchEffect 0b011 .ram s) s)

/-- `BNE AC`, opcode byte 0xEE (R184, R122, R128). -/
def execBneAc (s : State) : Host.Outcome State Fault Refusal :=
  .next (advance (branchEffect 0b011 .ac s) s)

/-- `BNE IN`, opcode byte 0xEF (R184, R122, R129). -/
def execBneIn (s : State) : Host.Outcome State Fault Refusal :=
  .next (advance (branchEffect 0b011 .input s) s)

/-- `BEQ D`, opcode byte 0xF0 (R185, R122, R125). -/
def execBeqD (s : State) : Host.Outcome State Fault Refusal :=
  .next (advance (branchEffect 0b100 .data s) s)

/-- `BEQ RAM`, opcode byte 0xF1 (R185, R122, R126). -/
def execBeqRam (s : State) : Host.Outcome State Fault Refusal :=
  .next (advance (branchEffect 0b100 .ram s) s)

/-- `BEQ AC`, opcode byte 0xF2 (R185, R122, R128). -/
def execBeqAc (s : State) : Host.Outcome State Fault Refusal :=
  .next (advance (branchEffect 0b100 .ac s) s)

/-- `BEQ IN`, opcode byte 0xF3 (R185, R122, R129). -/
def execBeqIn (s : State) : Host.Outcome State Fault Refusal :=
  .next (advance (branchEffect 0b100 .input s) s)

/-- `BGE D`, opcode byte 0xF4 (R186, R122, R125). -/
def execBgeD (s : State) : Host.Outcome State Fault Refusal :=
  .next (advance (branchEffect 0b101 .data s) s)

/-- `BGE RAM`, opcode byte 0xF5 (R186, R122, R126). -/
def execBgeRam (s : State) : Host.Outcome State Fault Refusal :=
  .next (advance (branchEffect 0b101 .ram s) s)

/-- `BGE AC`, opcode byte 0xF6 (R186, R122, R128). -/
def execBgeAc (s : State) : Host.Outcome State Fault Refusal :=
  .next (advance (branchEffect 0b101 .ac s) s)

/-- `BGE IN`, opcode byte 0xF7 (R186, R122, R129). -/
def execBgeIn (s : State) : Host.Outcome State Fault Refusal :=
  .next (advance (branchEffect 0b101 .input s) s)

/-- `BLE D`, opcode byte 0xF8 (R187, R122, R125). -/
def execBleD (s : State) : Host.Outcome State Fault Refusal :=
  .next (advance (branchEffect 0b110 .data s) s)

/-- `BLE RAM`, opcode byte 0xF9 (R187, R122, R126). -/
def execBleRam (s : State) : Host.Outcome State Fault Refusal :=
  .next (advance (branchEffect 0b110 .ram s) s)

/-- `BLE AC`, opcode byte 0xFA (R187, R122, R128). -/
def execBleAc (s : State) : Host.Outcome State Fault Refusal :=
  .next (advance (branchEffect 0b110 .ac s) s)

/-- `BLE IN`, opcode byte 0xFB (R187, R122, R129). -/
def execBleIn (s : State) : Host.Outcome State Fault Refusal :=
  .next (advance (branchEffect 0b110 .input s) s)

/-- `BRA D`, opcode byte 0xFC (R188, R122, R125). -/
def execBraD (s : State) : Host.Outcome State Fault Refusal :=
  .next (advance (branchEffect 0b111 .data s) s)

/-- `BRA RAM`, opcode byte 0xFD (R188, R122, R126). -/
def execBraRam (s : State) : Host.Outcome State Fault Refusal :=
  .next (advance (branchEffect 0b111 .ram s) s)

/-- `BRA AC`, opcode byte 0xFE (R188, R122, R128). -/
def execBraAc (s : State) : Host.Outcome State Fault Refusal :=
  .next (advance (branchEffect 0b111 .ac s) s)

/-- `BRA IN`, opcode byte 0xFF (R188, R122, R129). -/
def execBraIn (s : State) : Host.Outcome State Fault Refusal :=
  .next (advance (branchEffect 0b111 .input s) s)

end Sys2Proof.Machine
end

