-- ==== Sys2Proof/Machine/Load.lean ====
section
/-! DEFINITION. The meanings of LD (41_alu.md R150): one definition per row of the opcode table, each its row's
operation, mode and bus source over the shared cycle of Machine/Cycle.lean. No form faults or is refused
(60_exceptions.md R260). -/

namespace Sys2Proof.Machine

/-- `LD D, [D]>AC`, opcode byte 0x00 (R150, R114, R125). -/
def execLdD_dToAc (s : State) : Host.Outcome State Fault Refusal :=
  .next (advance (aluEffect .load .dToAc .data s) s)

/-- `LD RAM, [D]>AC`, opcode byte 0x01 (R150, R114, R126). -/
def execLdRam_dToAc (s : State) : Host.Outcome State Fault Refusal :=
  .next (advance (aluEffect .load .dToAc .ram s) s)

/-- `LD AC, [D]>AC`, opcode byte 0x02 (R150, R114, R128). -/
def execLdAc_dToAc (s : State) : Host.Outcome State Fault Refusal :=
  .next (advance (aluEffect .load .dToAc .ac s) s)

/-- `LD IN, [D]>AC`, opcode byte 0x03 (R150, R114, R129). -/
def execLdIn_dToAc (s : State) : Host.Outcome State Fault Refusal :=
  .next (advance (aluEffect .load .dToAc .input s) s)

/-- `LD D, [X]>AC`, opcode byte 0x04 (R150, R115, R125). -/
def execLdD_xToAc (s : State) : Host.Outcome State Fault Refusal :=
  .next (advance (aluEffect .load .xToAc .data s) s)

/-- `LD RAM, [X]>AC`, opcode byte 0x05 (R150, R115, R126). -/
def execLdRam_xToAc (s : State) : Host.Outcome State Fault Refusal :=
  .next (advance (aluEffect .load .xToAc .ram s) s)

/-- `LD AC, [X]>AC`, opcode byte 0x06 (R150, R115, R128). -/
def execLdAc_xToAc (s : State) : Host.Outcome State Fault Refusal :=
  .next (advance (aluEffect .load .xToAc .ac s) s)

/-- `LD IN, [X]>AC`, opcode byte 0x07 (R150, R115, R129). -/
def execLdIn_xToAc (s : State) : Host.Outcome State Fault Refusal :=
  .next (advance (aluEffect .load .xToAc .input s) s)

/-- `LD D, [Y:D]>AC`, opcode byte 0x08 (R150, R116, R125). -/
def execLdD_ydToAc (s : State) : Host.Outcome State Fault Refusal :=
  .next (advance (aluEffect .load .ydToAc .data s) s)

/-- `LD RAM, [Y:D]>AC`, opcode byte 0x09 (R150, R116, R126). -/
def execLdRam_ydToAc (s : State) : Host.Outcome State Fault Refusal :=
  .next (advance (aluEffect .load .ydToAc .ram s) s)

/-- `LD AC, [Y:D]>AC`, opcode byte 0x0A (R150, R116, R128). -/
def execLdAc_ydToAc (s : State) : Host.Outcome State Fault Refusal :=
  .next (advance (aluEffect .load .ydToAc .ac s) s)

/-- `LD IN, [Y:D]>AC`, opcode byte 0x0B (R150, R116, R129). -/
def execLdIn_ydToAc (s : State) : Host.Outcome State Fault Refusal :=
  .next (advance (aluEffect .load .ydToAc .input s) s)

/-- `LD D, [Y:X]>AC`, opcode byte 0x0C (R150, R117, R125). -/
def execLdD_yxToAc (s : State) : Host.Outcome State Fault Refusal :=
  .next (advance (aluEffect .load .yxToAc .data s) s)

/-- `LD RAM, [Y:X]>AC`, opcode byte 0x0D (R150, R117, R126). -/
def execLdRam_yxToAc (s : State) : Host.Outcome State Fault Refusal :=
  .next (advance (aluEffect .load .yxToAc .ram s) s)

/-- `LD AC, [Y:X]>AC`, opcode byte 0x0E (R150, R117, R128). -/
def execLdAc_yxToAc (s : State) : Host.Outcome State Fault Refusal :=
  .next (advance (aluEffect .load .yxToAc .ac s) s)

/-- `LD IN, [Y:X]>AC`, opcode byte 0x0F (R150, R117, R129). -/
def execLdIn_yxToAc (s : State) : Host.Outcome State Fault Refusal :=
  .next (advance (aluEffect .load .yxToAc .input s) s)

/-- `LD D, [D]>X`, opcode byte 0x10 (R150, R118, R125). -/
def execLdD_dToX (s : State) : Host.Outcome State Fault Refusal :=
  .next (advance (aluEffect .load .dToX .data s) s)

/-- `LD RAM, [D]>X`, opcode byte 0x11 (R150, R118, R126). -/
def execLdRam_dToX (s : State) : Host.Outcome State Fault Refusal :=
  .next (advance (aluEffect .load .dToX .ram s) s)

/-- `LD AC, [D]>X`, opcode byte 0x12 (R150, R118, R128). -/
def execLdAc_dToX (s : State) : Host.Outcome State Fault Refusal :=
  .next (advance (aluEffect .load .dToX .ac s) s)

/-- `LD IN, [D]>X`, opcode byte 0x13 (R150, R118, R129). -/
def execLdIn_dToX (s : State) : Host.Outcome State Fault Refusal :=
  .next (advance (aluEffect .load .dToX .input s) s)

/-- `LD D, [D]>Y`, opcode byte 0x14 (R150, R119, R125). -/
def execLdD_dToY (s : State) : Host.Outcome State Fault Refusal :=
  .next (advance (aluEffect .load .dToY .data s) s)

/-- `LD RAM, [D]>Y`, opcode byte 0x15 (R150, R119, R126). -/
def execLdRam_dToY (s : State) : Host.Outcome State Fault Refusal :=
  .next (advance (aluEffect .load .dToY .ram s) s)

/-- `LD AC, [D]>Y`, opcode byte 0x16 (R150, R119, R128). -/
def execLdAc_dToY (s : State) : Host.Outcome State Fault Refusal :=
  .next (advance (aluEffect .load .dToY .ac s) s)

/-- `LD IN, [D]>Y`, opcode byte 0x17 (R150, R119, R129). -/
def execLdIn_dToY (s : State) : Host.Outcome State Fault Refusal :=
  .next (advance (aluEffect .load .dToY .input s) s)

/-- `LD D, [D]>OUT`, opcode byte 0x18 (R150, R120, R125). -/
def execLdD_dToOut (s : State) : Host.Outcome State Fault Refusal :=
  .next (advance (aluEffect .load .dToOut .data s) s)

/-- `LD RAM, [D]>OUT`, opcode byte 0x19 (R150, R120, R126). -/
def execLdRam_dToOut (s : State) : Host.Outcome State Fault Refusal :=
  .next (advance (aluEffect .load .dToOut .ram s) s)

/-- `LD AC, [D]>OUT`, opcode byte 0x1A (R150, R120, R128). -/
def execLdAc_dToOut (s : State) : Host.Outcome State Fault Refusal :=
  .next (advance (aluEffect .load .dToOut .ac s) s)

/-- `LD IN, [D]>OUT`, opcode byte 0x1B (R150, R120, R129). -/
def execLdIn_dToOut (s : State) : Host.Outcome State Fault Refusal :=
  .next (advance (aluEffect .load .dToOut .input s) s)

/-- `LD D, [Y:X++]>OUT`, opcode byte 0x1C (R150, R121, R125). -/
def execLdD_yxIncToOut (s : State) : Host.Outcome State Fault Refusal :=
  .next (advance (aluEffect .load .yxIncToOut .data s) s)

/-- `LD RAM, [Y:X++]>OUT`, opcode byte 0x1D (R150, R121, R126). -/
def execLdRam_yxIncToOut (s : State) : Host.Outcome State Fault Refusal :=
  .next (advance (aluEffect .load .yxIncToOut .ram s) s)

/-- `LD AC, [Y:X++]>OUT`, opcode byte 0x1E (R150, R121, R128). -/
def execLdAc_yxIncToOut (s : State) : Host.Outcome State Fault Refusal :=
  .next (advance (aluEffect .load .yxIncToOut .ac s) s)

/-- `LD IN, [Y:X++]>OUT`, opcode byte 0x1F (R150, R121, R129). -/
def execLdIn_yxIncToOut (s : State) : Host.Outcome State Fault Refusal :=
  .next (advance (aluEffect .load .yxIncToOut .input s) s)

end Sys2Proof.Machine
end

