-- ==== Sys2Proof/Machine/Logic.lean ====
section
/-! DEFINITION. The meanings of AND, OR and XOR (41_alu.md R151 to R153): one definition per row of the opcode table, each its row's
operation, mode and bus source over the shared cycle of Machine/Cycle.lean. No form faults or is refused
(60_exceptions.md R260). -/

namespace Sys2Proof.Machine

/-- `AND D, [D]>AC`, opcode byte 0x20 (R151, R114, R125). -/
def execAndD_dToAc (s : State) : Host.Outcome State Fault Refusal :=
  .next (advance (aluEffect .and .dToAc .data s) s)

/-- `AND RAM, [D]>AC`, opcode byte 0x21 (R151, R114, R126). -/
def execAndRam_dToAc (s : State) : Host.Outcome State Fault Refusal :=
  .next (advance (aluEffect .and .dToAc .ram s) s)

/-- `AND AC, [D]>AC`, opcode byte 0x22 (R151, R114, R128). -/
def execAndAc_dToAc (s : State) : Host.Outcome State Fault Refusal :=
  .next (advance (aluEffect .and .dToAc .ac s) s)

/-- `AND IN, [D]>AC`, opcode byte 0x23 (R151, R114, R129). -/
def execAndIn_dToAc (s : State) : Host.Outcome State Fault Refusal :=
  .next (advance (aluEffect .and .dToAc .input s) s)

/-- `AND D, [X]>AC`, opcode byte 0x24 (R151, R115, R125). -/
def execAndD_xToAc (s : State) : Host.Outcome State Fault Refusal :=
  .next (advance (aluEffect .and .xToAc .data s) s)

/-- `AND RAM, [X]>AC`, opcode byte 0x25 (R151, R115, R126). -/
def execAndRam_xToAc (s : State) : Host.Outcome State Fault Refusal :=
  .next (advance (aluEffect .and .xToAc .ram s) s)

/-- `AND AC, [X]>AC`, opcode byte 0x26 (R151, R115, R128). -/
def execAndAc_xToAc (s : State) : Host.Outcome State Fault Refusal :=
  .next (advance (aluEffect .and .xToAc .ac s) s)

/-- `AND IN, [X]>AC`, opcode byte 0x27 (R151, R115, R129). -/
def execAndIn_xToAc (s : State) : Host.Outcome State Fault Refusal :=
  .next (advance (aluEffect .and .xToAc .input s) s)

/-- `AND D, [Y:D]>AC`, opcode byte 0x28 (R151, R116, R125). -/
def execAndD_ydToAc (s : State) : Host.Outcome State Fault Refusal :=
  .next (advance (aluEffect .and .ydToAc .data s) s)

/-- `AND RAM, [Y:D]>AC`, opcode byte 0x29 (R151, R116, R126). -/
def execAndRam_ydToAc (s : State) : Host.Outcome State Fault Refusal :=
  .next (advance (aluEffect .and .ydToAc .ram s) s)

/-- `AND AC, [Y:D]>AC`, opcode byte 0x2A (R151, R116, R128). -/
def execAndAc_ydToAc (s : State) : Host.Outcome State Fault Refusal :=
  .next (advance (aluEffect .and .ydToAc .ac s) s)

/-- `AND IN, [Y:D]>AC`, opcode byte 0x2B (R151, R116, R129). -/
def execAndIn_ydToAc (s : State) : Host.Outcome State Fault Refusal :=
  .next (advance (aluEffect .and .ydToAc .input s) s)

/-- `AND D, [Y:X]>AC`, opcode byte 0x2C (R151, R117, R125). -/
def execAndD_yxToAc (s : State) : Host.Outcome State Fault Refusal :=
  .next (advance (aluEffect .and .yxToAc .data s) s)

/-- `AND RAM, [Y:X]>AC`, opcode byte 0x2D (R151, R117, R126). -/
def execAndRam_yxToAc (s : State) : Host.Outcome State Fault Refusal :=
  .next (advance (aluEffect .and .yxToAc .ram s) s)

/-- `AND AC, [Y:X]>AC`, opcode byte 0x2E (R151, R117, R128). -/
def execAndAc_yxToAc (s : State) : Host.Outcome State Fault Refusal :=
  .next (advance (aluEffect .and .yxToAc .ac s) s)

/-- `AND IN, [Y:X]>AC`, opcode byte 0x2F (R151, R117, R129). -/
def execAndIn_yxToAc (s : State) : Host.Outcome State Fault Refusal :=
  .next (advance (aluEffect .and .yxToAc .input s) s)

/-- `AND D, [D]>X`, opcode byte 0x30 (R151, R118, R125). -/
def execAndD_dToX (s : State) : Host.Outcome State Fault Refusal :=
  .next (advance (aluEffect .and .dToX .data s) s)

/-- `AND RAM, [D]>X`, opcode byte 0x31 (R151, R118, R126). -/
def execAndRam_dToX (s : State) : Host.Outcome State Fault Refusal :=
  .next (advance (aluEffect .and .dToX .ram s) s)

/-- `AND AC, [D]>X`, opcode byte 0x32 (R151, R118, R128). -/
def execAndAc_dToX (s : State) : Host.Outcome State Fault Refusal :=
  .next (advance (aluEffect .and .dToX .ac s) s)

/-- `AND IN, [D]>X`, opcode byte 0x33 (R151, R118, R129). -/
def execAndIn_dToX (s : State) : Host.Outcome State Fault Refusal :=
  .next (advance (aluEffect .and .dToX .input s) s)

/-- `AND D, [D]>Y`, opcode byte 0x34 (R151, R119, R125). -/
def execAndD_dToY (s : State) : Host.Outcome State Fault Refusal :=
  .next (advance (aluEffect .and .dToY .data s) s)

/-- `AND RAM, [D]>Y`, opcode byte 0x35 (R151, R119, R126). -/
def execAndRam_dToY (s : State) : Host.Outcome State Fault Refusal :=
  .next (advance (aluEffect .and .dToY .ram s) s)

/-- `AND AC, [D]>Y`, opcode byte 0x36 (R151, R119, R128). -/
def execAndAc_dToY (s : State) : Host.Outcome State Fault Refusal :=
  .next (advance (aluEffect .and .dToY .ac s) s)

/-- `AND IN, [D]>Y`, opcode byte 0x37 (R151, R119, R129). -/
def execAndIn_dToY (s : State) : Host.Outcome State Fault Refusal :=
  .next (advance (aluEffect .and .dToY .input s) s)

/-- `AND D, [D]>OUT`, opcode byte 0x38 (R151, R120, R125). -/
def execAndD_dToOut (s : State) : Host.Outcome State Fault Refusal :=
  .next (advance (aluEffect .and .dToOut .data s) s)

/-- `AND RAM, [D]>OUT`, opcode byte 0x39 (R151, R120, R126). -/
def execAndRam_dToOut (s : State) : Host.Outcome State Fault Refusal :=
  .next (advance (aluEffect .and .dToOut .ram s) s)

/-- `AND AC, [D]>OUT`, opcode byte 0x3A (R151, R120, R128). -/
def execAndAc_dToOut (s : State) : Host.Outcome State Fault Refusal :=
  .next (advance (aluEffect .and .dToOut .ac s) s)

/-- `AND IN, [D]>OUT`, opcode byte 0x3B (R151, R120, R129). -/
def execAndIn_dToOut (s : State) : Host.Outcome State Fault Refusal :=
  .next (advance (aluEffect .and .dToOut .input s) s)

/-- `AND D, [Y:X++]>OUT`, opcode byte 0x3C (R151, R121, R125). -/
def execAndD_yxIncToOut (s : State) : Host.Outcome State Fault Refusal :=
  .next (advance (aluEffect .and .yxIncToOut .data s) s)

/-- `AND RAM, [Y:X++]>OUT`, opcode byte 0x3D (R151, R121, R126). -/
def execAndRam_yxIncToOut (s : State) : Host.Outcome State Fault Refusal :=
  .next (advance (aluEffect .and .yxIncToOut .ram s) s)

/-- `AND AC, [Y:X++]>OUT`, opcode byte 0x3E (R151, R121, R128). -/
def execAndAc_yxIncToOut (s : State) : Host.Outcome State Fault Refusal :=
  .next (advance (aluEffect .and .yxIncToOut .ac s) s)

/-- `AND IN, [Y:X++]>OUT`, opcode byte 0x3F (R151, R121, R129). -/
def execAndIn_yxIncToOut (s : State) : Host.Outcome State Fault Refusal :=
  .next (advance (aluEffect .and .yxIncToOut .input s) s)

/-- `OR D, [D]>AC`, opcode byte 0x40 (R152, R114, R125). -/
def execOrD_dToAc (s : State) : Host.Outcome State Fault Refusal :=
  .next (advance (aluEffect .or .dToAc .data s) s)

/-- `OR RAM, [D]>AC`, opcode byte 0x41 (R152, R114, R126). -/
def execOrRam_dToAc (s : State) : Host.Outcome State Fault Refusal :=
  .next (advance (aluEffect .or .dToAc .ram s) s)

/-- `OR AC, [D]>AC`, opcode byte 0x42 (R152, R114, R128). -/
def execOrAc_dToAc (s : State) : Host.Outcome State Fault Refusal :=
  .next (advance (aluEffect .or .dToAc .ac s) s)

/-- `OR IN, [D]>AC`, opcode byte 0x43 (R152, R114, R129). -/
def execOrIn_dToAc (s : State) : Host.Outcome State Fault Refusal :=
  .next (advance (aluEffect .or .dToAc .input s) s)

/-- `OR D, [X]>AC`, opcode byte 0x44 (R152, R115, R125). -/
def execOrD_xToAc (s : State) : Host.Outcome State Fault Refusal :=
  .next (advance (aluEffect .or .xToAc .data s) s)

/-- `OR RAM, [X]>AC`, opcode byte 0x45 (R152, R115, R126). -/
def execOrRam_xToAc (s : State) : Host.Outcome State Fault Refusal :=
  .next (advance (aluEffect .or .xToAc .ram s) s)

/-- `OR AC, [X]>AC`, opcode byte 0x46 (R152, R115, R128). -/
def execOrAc_xToAc (s : State) : Host.Outcome State Fault Refusal :=
  .next (advance (aluEffect .or .xToAc .ac s) s)

/-- `OR IN, [X]>AC`, opcode byte 0x47 (R152, R115, R129). -/
def execOrIn_xToAc (s : State) : Host.Outcome State Fault Refusal :=
  .next (advance (aluEffect .or .xToAc .input s) s)

/-- `OR D, [Y:D]>AC`, opcode byte 0x48 (R152, R116, R125). -/
def execOrD_ydToAc (s : State) : Host.Outcome State Fault Refusal :=
  .next (advance (aluEffect .or .ydToAc .data s) s)

/-- `OR RAM, [Y:D]>AC`, opcode byte 0x49 (R152, R116, R126). -/
def execOrRam_ydToAc (s : State) : Host.Outcome State Fault Refusal :=
  .next (advance (aluEffect .or .ydToAc .ram s) s)

/-- `OR AC, [Y:D]>AC`, opcode byte 0x4A (R152, R116, R128). -/
def execOrAc_ydToAc (s : State) : Host.Outcome State Fault Refusal :=
  .next (advance (aluEffect .or .ydToAc .ac s) s)

/-- `OR IN, [Y:D]>AC`, opcode byte 0x4B (R152, R116, R129). -/
def execOrIn_ydToAc (s : State) : Host.Outcome State Fault Refusal :=
  .next (advance (aluEffect .or .ydToAc .input s) s)

/-- `OR D, [Y:X]>AC`, opcode byte 0x4C (R152, R117, R125). -/
def execOrD_yxToAc (s : State) : Host.Outcome State Fault Refusal :=
  .next (advance (aluEffect .or .yxToAc .data s) s)

/-- `OR RAM, [Y:X]>AC`, opcode byte 0x4D (R152, R117, R126). -/
def execOrRam_yxToAc (s : State) : Host.Outcome State Fault Refusal :=
  .next (advance (aluEffect .or .yxToAc .ram s) s)

/-- `OR AC, [Y:X]>AC`, opcode byte 0x4E (R152, R117, R128). -/
def execOrAc_yxToAc (s : State) : Host.Outcome State Fault Refusal :=
  .next (advance (aluEffect .or .yxToAc .ac s) s)

/-- `OR IN, [Y:X]>AC`, opcode byte 0x4F (R152, R117, R129). -/
def execOrIn_yxToAc (s : State) : Host.Outcome State Fault Refusal :=
  .next (advance (aluEffect .or .yxToAc .input s) s)

/-- `OR D, [D]>X`, opcode byte 0x50 (R152, R118, R125). -/
def execOrD_dToX (s : State) : Host.Outcome State Fault Refusal :=
  .next (advance (aluEffect .or .dToX .data s) s)

/-- `OR RAM, [D]>X`, opcode byte 0x51 (R152, R118, R126). -/
def execOrRam_dToX (s : State) : Host.Outcome State Fault Refusal :=
  .next (advance (aluEffect .or .dToX .ram s) s)

/-- `OR AC, [D]>X`, opcode byte 0x52 (R152, R118, R128). -/
def execOrAc_dToX (s : State) : Host.Outcome State Fault Refusal :=
  .next (advance (aluEffect .or .dToX .ac s) s)

/-- `OR IN, [D]>X`, opcode byte 0x53 (R152, R118, R129). -/
def execOrIn_dToX (s : State) : Host.Outcome State Fault Refusal :=
  .next (advance (aluEffect .or .dToX .input s) s)

/-- `OR D, [D]>Y`, opcode byte 0x54 (R152, R119, R125). -/
def execOrD_dToY (s : State) : Host.Outcome State Fault Refusal :=
  .next (advance (aluEffect .or .dToY .data s) s)

/-- `OR RAM, [D]>Y`, opcode byte 0x55 (R152, R119, R126). -/
def execOrRam_dToY (s : State) : Host.Outcome State Fault Refusal :=
  .next (advance (aluEffect .or .dToY .ram s) s)

/-- `OR AC, [D]>Y`, opcode byte 0x56 (R152, R119, R128). -/
def execOrAc_dToY (s : State) : Host.Outcome State Fault Refusal :=
  .next (advance (aluEffect .or .dToY .ac s) s)

/-- `OR IN, [D]>Y`, opcode byte 0x57 (R152, R119, R129). -/
def execOrIn_dToY (s : State) : Host.Outcome State Fault Refusal :=
  .next (advance (aluEffect .or .dToY .input s) s)

/-- `OR D, [D]>OUT`, opcode byte 0x58 (R152, R120, R125). -/
def execOrD_dToOut (s : State) : Host.Outcome State Fault Refusal :=
  .next (advance (aluEffect .or .dToOut .data s) s)

/-- `OR RAM, [D]>OUT`, opcode byte 0x59 (R152, R120, R126). -/
def execOrRam_dToOut (s : State) : Host.Outcome State Fault Refusal :=
  .next (advance (aluEffect .or .dToOut .ram s) s)

/-- `OR AC, [D]>OUT`, opcode byte 0x5A (R152, R120, R128). -/
def execOrAc_dToOut (s : State) : Host.Outcome State Fault Refusal :=
  .next (advance (aluEffect .or .dToOut .ac s) s)

/-- `OR IN, [D]>OUT`, opcode byte 0x5B (R152, R120, R129). -/
def execOrIn_dToOut (s : State) : Host.Outcome State Fault Refusal :=
  .next (advance (aluEffect .or .dToOut .input s) s)

/-- `OR D, [Y:X++]>OUT`, opcode byte 0x5C (R152, R121, R125). -/
def execOrD_yxIncToOut (s : State) : Host.Outcome State Fault Refusal :=
  .next (advance (aluEffect .or .yxIncToOut .data s) s)

/-- `OR RAM, [Y:X++]>OUT`, opcode byte 0x5D (R152, R121, R126). -/
def execOrRam_yxIncToOut (s : State) : Host.Outcome State Fault Refusal :=
  .next (advance (aluEffect .or .yxIncToOut .ram s) s)

/-- `OR AC, [Y:X++]>OUT`, opcode byte 0x5E (R152, R121, R128). -/
def execOrAc_yxIncToOut (s : State) : Host.Outcome State Fault Refusal :=
  .next (advance (aluEffect .or .yxIncToOut .ac s) s)

/-- `OR IN, [Y:X++]>OUT`, opcode byte 0x5F (R152, R121, R129). -/
def execOrIn_yxIncToOut (s : State) : Host.Outcome State Fault Refusal :=
  .next (advance (aluEffect .or .yxIncToOut .input s) s)

/-- `XOR D, [D]>AC`, opcode byte 0x60 (R153, R114, R125). -/
def execXorD_dToAc (s : State) : Host.Outcome State Fault Refusal :=
  .next (advance (aluEffect .xor .dToAc .data s) s)

/-- `XOR RAM, [D]>AC`, opcode byte 0x61 (R153, R114, R126). -/
def execXorRam_dToAc (s : State) : Host.Outcome State Fault Refusal :=
  .next (advance (aluEffect .xor .dToAc .ram s) s)

/-- `XOR AC, [D]>AC`, opcode byte 0x62 (R153, R114, R128). -/
def execXorAc_dToAc (s : State) : Host.Outcome State Fault Refusal :=
  .next (advance (aluEffect .xor .dToAc .ac s) s)

/-- `XOR IN, [D]>AC`, opcode byte 0x63 (R153, R114, R129). -/
def execXorIn_dToAc (s : State) : Host.Outcome State Fault Refusal :=
  .next (advance (aluEffect .xor .dToAc .input s) s)

/-- `XOR D, [X]>AC`, opcode byte 0x64 (R153, R115, R125). -/
def execXorD_xToAc (s : State) : Host.Outcome State Fault Refusal :=
  .next (advance (aluEffect .xor .xToAc .data s) s)

/-- `XOR RAM, [X]>AC`, opcode byte 0x65 (R153, R115, R126). -/
def execXorRam_xToAc (s : State) : Host.Outcome State Fault Refusal :=
  .next (advance (aluEffect .xor .xToAc .ram s) s)

/-- `XOR AC, [X]>AC`, opcode byte 0x66 (R153, R115, R128). -/
def execXorAc_xToAc (s : State) : Host.Outcome State Fault Refusal :=
  .next (advance (aluEffect .xor .xToAc .ac s) s)

/-- `XOR IN, [X]>AC`, opcode byte 0x67 (R153, R115, R129). -/
def execXorIn_xToAc (s : State) : Host.Outcome State Fault Refusal :=
  .next (advance (aluEffect .xor .xToAc .input s) s)

/-- `XOR D, [Y:D]>AC`, opcode byte 0x68 (R153, R116, R125). -/
def execXorD_ydToAc (s : State) : Host.Outcome State Fault Refusal :=
  .next (advance (aluEffect .xor .ydToAc .data s) s)

/-- `XOR RAM, [Y:D]>AC`, opcode byte 0x69 (R153, R116, R126). -/
def execXorRam_ydToAc (s : State) : Host.Outcome State Fault Refusal :=
  .next (advance (aluEffect .xor .ydToAc .ram s) s)

/-- `XOR AC, [Y:D]>AC`, opcode byte 0x6A (R153, R116, R128). -/
def execXorAc_ydToAc (s : State) : Host.Outcome State Fault Refusal :=
  .next (advance (aluEffect .xor .ydToAc .ac s) s)

/-- `XOR IN, [Y:D]>AC`, opcode byte 0x6B (R153, R116, R129). -/
def execXorIn_ydToAc (s : State) : Host.Outcome State Fault Refusal :=
  .next (advance (aluEffect .xor .ydToAc .input s) s)

/-- `XOR D, [Y:X]>AC`, opcode byte 0x6C (R153, R117, R125). -/
def execXorD_yxToAc (s : State) : Host.Outcome State Fault Refusal :=
  .next (advance (aluEffect .xor .yxToAc .data s) s)

/-- `XOR RAM, [Y:X]>AC`, opcode byte 0x6D (R153, R117, R126). -/
def execXorRam_yxToAc (s : State) : Host.Outcome State Fault Refusal :=
  .next (advance (aluEffect .xor .yxToAc .ram s) s)

/-- `XOR AC, [Y:X]>AC`, opcode byte 0x6E (R153, R117, R128). -/
def execXorAc_yxToAc (s : State) : Host.Outcome State Fault Refusal :=
  .next (advance (aluEffect .xor .yxToAc .ac s) s)

/-- `XOR IN, [Y:X]>AC`, opcode byte 0x6F (R153, R117, R129). -/
def execXorIn_yxToAc (s : State) : Host.Outcome State Fault Refusal :=
  .next (advance (aluEffect .xor .yxToAc .input s) s)

/-- `XOR D, [D]>X`, opcode byte 0x70 (R153, R118, R125). -/
def execXorD_dToX (s : State) : Host.Outcome State Fault Refusal :=
  .next (advance (aluEffect .xor .dToX .data s) s)

/-- `XOR RAM, [D]>X`, opcode byte 0x71 (R153, R118, R126). -/
def execXorRam_dToX (s : State) : Host.Outcome State Fault Refusal :=
  .next (advance (aluEffect .xor .dToX .ram s) s)

/-- `XOR AC, [D]>X`, opcode byte 0x72 (R153, R118, R128). -/
def execXorAc_dToX (s : State) : Host.Outcome State Fault Refusal :=
  .next (advance (aluEffect .xor .dToX .ac s) s)

/-- `XOR IN, [D]>X`, opcode byte 0x73 (R153, R118, R129). -/
def execXorIn_dToX (s : State) : Host.Outcome State Fault Refusal :=
  .next (advance (aluEffect .xor .dToX .input s) s)

/-- `XOR D, [D]>Y`, opcode byte 0x74 (R153, R119, R125). -/
def execXorD_dToY (s : State) : Host.Outcome State Fault Refusal :=
  .next (advance (aluEffect .xor .dToY .data s) s)

/-- `XOR RAM, [D]>Y`, opcode byte 0x75 (R153, R119, R126). -/
def execXorRam_dToY (s : State) : Host.Outcome State Fault Refusal :=
  .next (advance (aluEffect .xor .dToY .ram s) s)

/-- `XOR AC, [D]>Y`, opcode byte 0x76 (R153, R119, R128). -/
def execXorAc_dToY (s : State) : Host.Outcome State Fault Refusal :=
  .next (advance (aluEffect .xor .dToY .ac s) s)

/-- `XOR IN, [D]>Y`, opcode byte 0x77 (R153, R119, R129). -/
def execXorIn_dToY (s : State) : Host.Outcome State Fault Refusal :=
  .next (advance (aluEffect .xor .dToY .input s) s)

/-- `XOR D, [D]>OUT`, opcode byte 0x78 (R153, R120, R125). -/
def execXorD_dToOut (s : State) : Host.Outcome State Fault Refusal :=
  .next (advance (aluEffect .xor .dToOut .data s) s)

/-- `XOR RAM, [D]>OUT`, opcode byte 0x79 (R153, R120, R126). -/
def execXorRam_dToOut (s : State) : Host.Outcome State Fault Refusal :=
  .next (advance (aluEffect .xor .dToOut .ram s) s)

/-- `XOR AC, [D]>OUT`, opcode byte 0x7A (R153, R120, R128). -/
def execXorAc_dToOut (s : State) : Host.Outcome State Fault Refusal :=
  .next (advance (aluEffect .xor .dToOut .ac s) s)

/-- `XOR IN, [D]>OUT`, opcode byte 0x7B (R153, R120, R129). -/
def execXorIn_dToOut (s : State) : Host.Outcome State Fault Refusal :=
  .next (advance (aluEffect .xor .dToOut .input s) s)

/-- `XOR D, [Y:X++]>OUT`, opcode byte 0x7C (R153, R121, R125). -/
def execXorD_yxIncToOut (s : State) : Host.Outcome State Fault Refusal :=
  .next (advance (aluEffect .xor .yxIncToOut .data s) s)

/-- `XOR RAM, [Y:X++]>OUT`, opcode byte 0x7D (R153, R121, R126). -/
def execXorRam_yxIncToOut (s : State) : Host.Outcome State Fault Refusal :=
  .next (advance (aluEffect .xor .yxIncToOut .ram s) s)

/-- `XOR AC, [Y:X++]>OUT`, opcode byte 0x7E (R153, R121, R128). -/
def execXorAc_yxIncToOut (s : State) : Host.Outcome State Fault Refusal :=
  .next (advance (aluEffect .xor .yxIncToOut .ac s) s)

/-- `XOR IN, [Y:X++]>OUT`, opcode byte 0x7F (R153, R121, R129). -/
def execXorIn_yxIncToOut (s : State) : Host.Outcome State Fault Refusal :=
  .next (advance (aluEffect .xor .yxIncToOut .input s) s)

end Sys2Proof.Machine
end

