-- ==== Sys2Proof/Machine/Store.lean ====
section
/-! DEFINITION. The meanings of ST (42_store.md R170 to R176): one definition per row of the opcode table, each its row's
operation, mode and bus source over the shared cycle of Machine/Cycle.lean. No form faults or is refused
(60_exceptions.md R260). -/

namespace Sys2Proof.Machine

/-- `ST D, [D]>AC`, opcode byte 0xC0 (R170, R114, R125). -/
def execStD_dToAc (s : State) : Host.Outcome State Fault Refusal :=
  .next (advance (storeEffect .dToAc .data s) s)

/-- `ST RAM, [D]>AC`, opcode byte 0xC1 (R170, R114, R127). -/
def execStRam_dToAc (s : State) : Host.Outcome State Fault Refusal :=
  .next (advance (storeEffect .dToAc .ram s) s)

/-- `ST AC, [D]>AC`, opcode byte 0xC2 (R170, R114, R128). -/
def execStAc_dToAc (s : State) : Host.Outcome State Fault Refusal :=
  .next (advance (storeEffect .dToAc .ac s) s)

/-- `ST IN, [D]>AC`, opcode byte 0xC3 (R170, R114, R129). -/
def execStIn_dToAc (s : State) : Host.Outcome State Fault Refusal :=
  .next (advance (storeEffect .dToAc .input s) s)

/-- `ST D, [X]>AC`, opcode byte 0xC4 (R170, R115, R125). -/
def execStD_xToAc (s : State) : Host.Outcome State Fault Refusal :=
  .next (advance (storeEffect .xToAc .data s) s)

/-- `ST RAM, [X]>AC`, opcode byte 0xC5 (R170, R115, R127). -/
def execStRam_xToAc (s : State) : Host.Outcome State Fault Refusal :=
  .next (advance (storeEffect .xToAc .ram s) s)

/-- `ST AC, [X]>AC`, opcode byte 0xC6 (R170, R115, R128). -/
def execStAc_xToAc (s : State) : Host.Outcome State Fault Refusal :=
  .next (advance (storeEffect .xToAc .ac s) s)

/-- `ST IN, [X]>AC`, opcode byte 0xC7 (R170, R115, R129). -/
def execStIn_xToAc (s : State) : Host.Outcome State Fault Refusal :=
  .next (advance (storeEffect .xToAc .input s) s)

/-- `ST D, [Y:D]>AC`, opcode byte 0xC8 (R170, R116, R125). -/
def execStD_ydToAc (s : State) : Host.Outcome State Fault Refusal :=
  .next (advance (storeEffect .ydToAc .data s) s)

/-- `ST RAM, [Y:D]>AC`, opcode byte 0xC9 (R170, R116, R127). -/
def execStRam_ydToAc (s : State) : Host.Outcome State Fault Refusal :=
  .next (advance (storeEffect .ydToAc .ram s) s)

/-- `ST AC, [Y:D]>AC`, opcode byte 0xCA (R170, R116, R128). -/
def execStAc_ydToAc (s : State) : Host.Outcome State Fault Refusal :=
  .next (advance (storeEffect .ydToAc .ac s) s)

/-- `ST IN, [Y:D]>AC`, opcode byte 0xCB (R170, R116, R129). -/
def execStIn_ydToAc (s : State) : Host.Outcome State Fault Refusal :=
  .next (advance (storeEffect .ydToAc .input s) s)

/-- `ST D, [Y:X]>AC`, opcode byte 0xCC (R170, R117, R125). -/
def execStD_yxToAc (s : State) : Host.Outcome State Fault Refusal :=
  .next (advance (storeEffect .yxToAc .data s) s)

/-- `ST RAM, [Y:X]>AC`, opcode byte 0xCD (R170, R117, R127). -/
def execStRam_yxToAc (s : State) : Host.Outcome State Fault Refusal :=
  .next (advance (storeEffect .yxToAc .ram s) s)

/-- `ST AC, [Y:X]>AC`, opcode byte 0xCE (R170, R117, R128). -/
def execStAc_yxToAc (s : State) : Host.Outcome State Fault Refusal :=
  .next (advance (storeEffect .yxToAc .ac s) s)

/-- `ST IN, [Y:X]>AC`, opcode byte 0xCF (R170, R117, R129). -/
def execStIn_yxToAc (s : State) : Host.Outcome State Fault Refusal :=
  .next (advance (storeEffect .yxToAc .input s) s)

/-- `ST D, [D]>X`, opcode byte 0xD0 (R170, R118, R125). -/
def execStD_dToX (s : State) : Host.Outcome State Fault Refusal :=
  .next (advance (storeEffect .dToX .data s) s)

/-- `ST RAM, [D]>X`, opcode byte 0xD1 (R170, R118, R127). -/
def execStRam_dToX (s : State) : Host.Outcome State Fault Refusal :=
  .next (advance (storeEffect .dToX .ram s) s)

/-- `ST AC, [D]>X`, opcode byte 0xD2 (R170, R118, R128). -/
def execStAc_dToX (s : State) : Host.Outcome State Fault Refusal :=
  .next (advance (storeEffect .dToX .ac s) s)

/-- `ST IN, [D]>X`, opcode byte 0xD3 (R170, R118, R129). -/
def execStIn_dToX (s : State) : Host.Outcome State Fault Refusal :=
  .next (advance (storeEffect .dToX .input s) s)

/-- `ST D, [D]>Y`, opcode byte 0xD4 (R170, R119, R125). -/
def execStD_dToY (s : State) : Host.Outcome State Fault Refusal :=
  .next (advance (storeEffect .dToY .data s) s)

/-- `ST RAM, [D]>Y`, opcode byte 0xD5 (R170, R119, R127). -/
def execStRam_dToY (s : State) : Host.Outcome State Fault Refusal :=
  .next (advance (storeEffect .dToY .ram s) s)

/-- `ST AC, [D]>Y`, opcode byte 0xD6 (R170, R119, R128). -/
def execStAc_dToY (s : State) : Host.Outcome State Fault Refusal :=
  .next (advance (storeEffect .dToY .ac s) s)

/-- `ST IN, [D]>Y`, opcode byte 0xD7 (R170, R119, R129). -/
def execStIn_dToY (s : State) : Host.Outcome State Fault Refusal :=
  .next (advance (storeEffect .dToY .input s) s)

/-- `ST D, [D]>OUT`, opcode byte 0xD8 (R170, R120, R125). -/
def execStD_dToOut (s : State) : Host.Outcome State Fault Refusal :=
  .next (advance (storeEffect .dToOut .data s) s)

/-- `ST RAM, [D]>OUT`, opcode byte 0xD9 (R170, R120, R127). -/
def execStRam_dToOut (s : State) : Host.Outcome State Fault Refusal :=
  .next (advance (storeEffect .dToOut .ram s) s)

/-- `ST AC, [D]>OUT`, opcode byte 0xDA (R170, R120, R128). -/
def execStAc_dToOut (s : State) : Host.Outcome State Fault Refusal :=
  .next (advance (storeEffect .dToOut .ac s) s)

/-- `ST IN, [D]>OUT`, opcode byte 0xDB (R170, R120, R129). -/
def execStIn_dToOut (s : State) : Host.Outcome State Fault Refusal :=
  .next (advance (storeEffect .dToOut .input s) s)

/-- `ST D, [Y:X++]>OUT`, opcode byte 0xDC (R170, R121, R125). -/
def execStD_yxIncToOut (s : State) : Host.Outcome State Fault Refusal :=
  .next (advance (storeEffect .yxIncToOut .data s) s)

/-- `ST RAM, [Y:X++]>OUT`, opcode byte 0xDD (R170, R121, R127). -/
def execStRam_yxIncToOut (s : State) : Host.Outcome State Fault Refusal :=
  .next (advance (storeEffect .yxIncToOut .ram s) s)

/-- `ST AC, [Y:X++]>OUT`, opcode byte 0xDE (R170, R121, R128). -/
def execStAc_yxIncToOut (s : State) : Host.Outcome State Fault Refusal :=
  .next (advance (storeEffect .yxIncToOut .ac s) s)

/-- `ST IN, [Y:X++]>OUT`, opcode byte 0xDF (R170, R121, R129). -/
def execStIn_yxIncToOut (s : State) : Host.Outcome State Fault Refusal :=
  .next (advance (storeEffect .yxIncToOut .input s) s)

end Sys2Proof.Machine
end

