-- ==== Sys2Proof/Machine/Dispatch.lean ====
section
/-! DEFINITION. Dispatch: one arm per instruction, each one call of its meaning. -/

namespace Sys2Proof.Machine

def exec (i : Instr) (s : State) : Host.Outcome State Fault Refusal :=
  match i with
  | .ldD_dToAc => Sys2Proof.Machine.execLdD_dToAc s
  | .ldRam_dToAc => Sys2Proof.Machine.execLdRam_dToAc s
  | .ldAc_dToAc => Sys2Proof.Machine.execLdAc_dToAc s
  | .ldIn_dToAc => Sys2Proof.Machine.execLdIn_dToAc s
  | .ldD_xToAc => Sys2Proof.Machine.execLdD_xToAc s
  | .ldRam_xToAc => Sys2Proof.Machine.execLdRam_xToAc s
  | .ldAc_xToAc => Sys2Proof.Machine.execLdAc_xToAc s
  | .ldIn_xToAc => Sys2Proof.Machine.execLdIn_xToAc s
  | .ldD_ydToAc => Sys2Proof.Machine.execLdD_ydToAc s
  | .ldRam_ydToAc => Sys2Proof.Machine.execLdRam_ydToAc s
  | .ldAc_ydToAc => Sys2Proof.Machine.execLdAc_ydToAc s
  | .ldIn_ydToAc => Sys2Proof.Machine.execLdIn_ydToAc s
  | .ldD_yxToAc => Sys2Proof.Machine.execLdD_yxToAc s
  | .ldRam_yxToAc => Sys2Proof.Machine.execLdRam_yxToAc s
  | .ldAc_yxToAc => Sys2Proof.Machine.execLdAc_yxToAc s
  | .ldIn_yxToAc => Sys2Proof.Machine.execLdIn_yxToAc s
  | .ldD_dToX => Sys2Proof.Machine.execLdD_dToX s
  | .ldRam_dToX => Sys2Proof.Machine.execLdRam_dToX s
  | .ldAc_dToX => Sys2Proof.Machine.execLdAc_dToX s
  | .ldIn_dToX => Sys2Proof.Machine.execLdIn_dToX s
  | .ldD_dToY => Sys2Proof.Machine.execLdD_dToY s
  | .ldRam_dToY => Sys2Proof.Machine.execLdRam_dToY s
  | .ldAc_dToY => Sys2Proof.Machine.execLdAc_dToY s
  | .ldIn_dToY => Sys2Proof.Machine.execLdIn_dToY s
  | .ldD_dToOut => Sys2Proof.Machine.execLdD_dToOut s
  | .ldRam_dToOut => Sys2Proof.Machine.execLdRam_dToOut s
  | .ldAc_dToOut => Sys2Proof.Machine.execLdAc_dToOut s
  | .ldIn_dToOut => Sys2Proof.Machine.execLdIn_dToOut s
  | .ldD_yxIncToOut => Sys2Proof.Machine.execLdD_yxIncToOut s
  | .ldRam_yxIncToOut => Sys2Proof.Machine.execLdRam_yxIncToOut s
  | .ldAc_yxIncToOut => Sys2Proof.Machine.execLdAc_yxIncToOut s
  | .ldIn_yxIncToOut => Sys2Proof.Machine.execLdIn_yxIncToOut s
  | .andD_dToAc => Sys2Proof.Machine.execAndD_dToAc s
  | .andRam_dToAc => Sys2Proof.Machine.execAndRam_dToAc s
  | .andAc_dToAc => Sys2Proof.Machine.execAndAc_dToAc s
  | .andIn_dToAc => Sys2Proof.Machine.execAndIn_dToAc s
  | .andD_xToAc => Sys2Proof.Machine.execAndD_xToAc s
  | .andRam_xToAc => Sys2Proof.Machine.execAndRam_xToAc s
  | .andAc_xToAc => Sys2Proof.Machine.execAndAc_xToAc s
  | .andIn_xToAc => Sys2Proof.Machine.execAndIn_xToAc s
  | .andD_ydToAc => Sys2Proof.Machine.execAndD_ydToAc s
  | .andRam_ydToAc => Sys2Proof.Machine.execAndRam_ydToAc s
  | .andAc_ydToAc => Sys2Proof.Machine.execAndAc_ydToAc s
  | .andIn_ydToAc => Sys2Proof.Machine.execAndIn_ydToAc s
  | .andD_yxToAc => Sys2Proof.Machine.execAndD_yxToAc s
  | .andRam_yxToAc => Sys2Proof.Machine.execAndRam_yxToAc s
  | .andAc_yxToAc => Sys2Proof.Machine.execAndAc_yxToAc s
  | .andIn_yxToAc => Sys2Proof.Machine.execAndIn_yxToAc s
  | .andD_dToX => Sys2Proof.Machine.execAndD_dToX s
  | .andRam_dToX => Sys2Proof.Machine.execAndRam_dToX s
  | .andAc_dToX => Sys2Proof.Machine.execAndAc_dToX s
  | .andIn_dToX => Sys2Proof.Machine.execAndIn_dToX s
  | .andD_dToY => Sys2Proof.Machine.execAndD_dToY s
  | .andRam_dToY => Sys2Proof.Machine.execAndRam_dToY s
  | .andAc_dToY => Sys2Proof.Machine.execAndAc_dToY s
  | .andIn_dToY => Sys2Proof.Machine.execAndIn_dToY s
  | .andD_dToOut => Sys2Proof.Machine.execAndD_dToOut s
  | .andRam_dToOut => Sys2Proof.Machine.execAndRam_dToOut s
  | .andAc_dToOut => Sys2Proof.Machine.execAndAc_dToOut s
  | .andIn_dToOut => Sys2Proof.Machine.execAndIn_dToOut s
  | .andD_yxIncToOut => Sys2Proof.Machine.execAndD_yxIncToOut s
  | .andRam_yxIncToOut => Sys2Proof.Machine.execAndRam_yxIncToOut s
  | .andAc_yxIncToOut => Sys2Proof.Machine.execAndAc_yxIncToOut s
  | .andIn_yxIncToOut => Sys2Proof.Machine.execAndIn_yxIncToOut s
  | .orD_dToAc => Sys2Proof.Machine.execOrD_dToAc s
  | .orRam_dToAc => Sys2Proof.Machine.execOrRam_dToAc s
  | .orAc_dToAc => Sys2Proof.Machine.execOrAc_dToAc s
  | .orIn_dToAc => Sys2Proof.Machine.execOrIn_dToAc s
  | .orD_xToAc => Sys2Proof.Machine.execOrD_xToAc s
  | .orRam_xToAc => Sys2Proof.Machine.execOrRam_xToAc s
  | .orAc_xToAc => Sys2Proof.Machine.execOrAc_xToAc s
  | .orIn_xToAc => Sys2Proof.Machine.execOrIn_xToAc s
  | .orD_ydToAc => Sys2Proof.Machine.execOrD_ydToAc s
  | .orRam_ydToAc => Sys2Proof.Machine.execOrRam_ydToAc s
  | .orAc_ydToAc => Sys2Proof.Machine.execOrAc_ydToAc s
  | .orIn_ydToAc => Sys2Proof.Machine.execOrIn_ydToAc s
  | .orD_yxToAc => Sys2Proof.Machine.execOrD_yxToAc s
  | .orRam_yxToAc => Sys2Proof.Machine.execOrRam_yxToAc s
  | .orAc_yxToAc => Sys2Proof.Machine.execOrAc_yxToAc s
  | .orIn_yxToAc => Sys2Proof.Machine.execOrIn_yxToAc s
  | .orD_dToX => Sys2Proof.Machine.execOrD_dToX s
  | .orRam_dToX => Sys2Proof.Machine.execOrRam_dToX s
  | .orAc_dToX => Sys2Proof.Machine.execOrAc_dToX s
  | .orIn_dToX => Sys2Proof.Machine.execOrIn_dToX s
  | .orD_dToY => Sys2Proof.Machine.execOrD_dToY s
  | .orRam_dToY => Sys2Proof.Machine.execOrRam_dToY s
  | .orAc_dToY => Sys2Proof.Machine.execOrAc_dToY s
  | .orIn_dToY => Sys2Proof.Machine.execOrIn_dToY s
  | .orD_dToOut => Sys2Proof.Machine.execOrD_dToOut s
  | .orRam_dToOut => Sys2Proof.Machine.execOrRam_dToOut s
  | .orAc_dToOut => Sys2Proof.Machine.execOrAc_dToOut s
  | .orIn_dToOut => Sys2Proof.Machine.execOrIn_dToOut s
  | .orD_yxIncToOut => Sys2Proof.Machine.execOrD_yxIncToOut s
  | .orRam_yxIncToOut => Sys2Proof.Machine.execOrRam_yxIncToOut s
  | .orAc_yxIncToOut => Sys2Proof.Machine.execOrAc_yxIncToOut s
  | .orIn_yxIncToOut => Sys2Proof.Machine.execOrIn_yxIncToOut s
  | .xorD_dToAc => Sys2Proof.Machine.execXorD_dToAc s
  | .xorRam_dToAc => Sys2Proof.Machine.execXorRam_dToAc s
  | .xorAc_dToAc => Sys2Proof.Machine.execXorAc_dToAc s
  | .xorIn_dToAc => Sys2Proof.Machine.execXorIn_dToAc s
  | .xorD_xToAc => Sys2Proof.Machine.execXorD_xToAc s
  | .xorRam_xToAc => Sys2Proof.Machine.execXorRam_xToAc s
  | .xorAc_xToAc => Sys2Proof.Machine.execXorAc_xToAc s
  | .xorIn_xToAc => Sys2Proof.Machine.execXorIn_xToAc s
  | .xorD_ydToAc => Sys2Proof.Machine.execXorD_ydToAc s
  | .xorRam_ydToAc => Sys2Proof.Machine.execXorRam_ydToAc s
  | .xorAc_ydToAc => Sys2Proof.Machine.execXorAc_ydToAc s
  | .xorIn_ydToAc => Sys2Proof.Machine.execXorIn_ydToAc s
  | .xorD_yxToAc => Sys2Proof.Machine.execXorD_yxToAc s
  | .xorRam_yxToAc => Sys2Proof.Machine.execXorRam_yxToAc s
  | .xorAc_yxToAc => Sys2Proof.Machine.execXorAc_yxToAc s
  | .xorIn_yxToAc => Sys2Proof.Machine.execXorIn_yxToAc s
  | .xorD_dToX => Sys2Proof.Machine.execXorD_dToX s
  | .xorRam_dToX => Sys2Proof.Machine.execXorRam_dToX s
  | .xorAc_dToX => Sys2Proof.Machine.execXorAc_dToX s
  | .xorIn_dToX => Sys2Proof.Machine.execXorIn_dToX s
  | .xorD_dToY => Sys2Proof.Machine.execXorD_dToY s
  | .xorRam_dToY => Sys2Proof.Machine.execXorRam_dToY s
  | .xorAc_dToY => Sys2Proof.Machine.execXorAc_dToY s
  | .xorIn_dToY => Sys2Proof.Machine.execXorIn_dToY s
  | .xorD_dToOut => Sys2Proof.Machine.execXorD_dToOut s
  | .xorRam_dToOut => Sys2Proof.Machine.execXorRam_dToOut s
  | .xorAc_dToOut => Sys2Proof.Machine.execXorAc_dToOut s
  | .xorIn_dToOut => Sys2Proof.Machine.execXorIn_dToOut s
  | .xorD_yxIncToOut => Sys2Proof.Machine.execXorD_yxIncToOut s
  | .xorRam_yxIncToOut => Sys2Proof.Machine.execXorRam_yxIncToOut s
  | .xorAc_yxIncToOut => Sys2Proof.Machine.execXorAc_yxIncToOut s
  | .xorIn_yxIncToOut => Sys2Proof.Machine.execXorIn_yxIncToOut s
  | .addD_dToAc => Sys2Proof.Machine.execAddD_dToAc s
  | .addRam_dToAc => Sys2Proof.Machine.execAddRam_dToAc s
  | .addAc_dToAc => Sys2Proof.Machine.execAddAc_dToAc s
  | .addIn_dToAc => Sys2Proof.Machine.execAddIn_dToAc s
  | .addD_xToAc => Sys2Proof.Machine.execAddD_xToAc s
  | .addRam_xToAc => Sys2Proof.Machine.execAddRam_xToAc s
  | .addAc_xToAc => Sys2Proof.Machine.execAddAc_xToAc s
  | .addIn_xToAc => Sys2Proof.Machine.execAddIn_xToAc s
  | .addD_ydToAc => Sys2Proof.Machine.execAddD_ydToAc s
  | .addRam_ydToAc => Sys2Proof.Machine.execAddRam_ydToAc s
  | .addAc_ydToAc => Sys2Proof.Machine.execAddAc_ydToAc s
  | .addIn_ydToAc => Sys2Proof.Machine.execAddIn_ydToAc s
  | .addD_yxToAc => Sys2Proof.Machine.execAddD_yxToAc s
  | .addRam_yxToAc => Sys2Proof.Machine.execAddRam_yxToAc s
  | .addAc_yxToAc => Sys2Proof.Machine.execAddAc_yxToAc s
  | .addIn_yxToAc => Sys2Proof.Machine.execAddIn_yxToAc s
  | .addD_dToX => Sys2Proof.Machine.execAddD_dToX s
  | .addRam_dToX => Sys2Proof.Machine.execAddRam_dToX s
  | .addAc_dToX => Sys2Proof.Machine.execAddAc_dToX s
  | .addIn_dToX => Sys2Proof.Machine.execAddIn_dToX s
  | .addD_dToY => Sys2Proof.Machine.execAddD_dToY s
  | .addRam_dToY => Sys2Proof.Machine.execAddRam_dToY s
  | .addAc_dToY => Sys2Proof.Machine.execAddAc_dToY s
  | .addIn_dToY => Sys2Proof.Machine.execAddIn_dToY s
  | .addD_dToOut => Sys2Proof.Machine.execAddD_dToOut s
  | .addRam_dToOut => Sys2Proof.Machine.execAddRam_dToOut s
  | .addAc_dToOut => Sys2Proof.Machine.execAddAc_dToOut s
  | .addIn_dToOut => Sys2Proof.Machine.execAddIn_dToOut s
  | .addD_yxIncToOut => Sys2Proof.Machine.execAddD_yxIncToOut s
  | .addRam_yxIncToOut => Sys2Proof.Machine.execAddRam_yxIncToOut s
  | .addAc_yxIncToOut => Sys2Proof.Machine.execAddAc_yxIncToOut s
  | .addIn_yxIncToOut => Sys2Proof.Machine.execAddIn_yxIncToOut s
  | .subD_dToAc => Sys2Proof.Machine.execSubD_dToAc s
  | .subRam_dToAc => Sys2Proof.Machine.execSubRam_dToAc s
  | .subAc_dToAc => Sys2Proof.Machine.execSubAc_dToAc s
  | .subIn_dToAc => Sys2Proof.Machine.execSubIn_dToAc s
  | .subD_xToAc => Sys2Proof.Machine.execSubD_xToAc s
  | .subRam_xToAc => Sys2Proof.Machine.execSubRam_xToAc s
  | .subAc_xToAc => Sys2Proof.Machine.execSubAc_xToAc s
  | .subIn_xToAc => Sys2Proof.Machine.execSubIn_xToAc s
  | .subD_ydToAc => Sys2Proof.Machine.execSubD_ydToAc s
  | .subRam_ydToAc => Sys2Proof.Machine.execSubRam_ydToAc s
  | .subAc_ydToAc => Sys2Proof.Machine.execSubAc_ydToAc s
  | .subIn_ydToAc => Sys2Proof.Machine.execSubIn_ydToAc s
  | .subD_yxToAc => Sys2Proof.Machine.execSubD_yxToAc s
  | .subRam_yxToAc => Sys2Proof.Machine.execSubRam_yxToAc s
  | .subAc_yxToAc => Sys2Proof.Machine.execSubAc_yxToAc s
  | .subIn_yxToAc => Sys2Proof.Machine.execSubIn_yxToAc s
  | .subD_dToX => Sys2Proof.Machine.execSubD_dToX s
  | .subRam_dToX => Sys2Proof.Machine.execSubRam_dToX s
  | .subAc_dToX => Sys2Proof.Machine.execSubAc_dToX s
  | .subIn_dToX => Sys2Proof.Machine.execSubIn_dToX s
  | .subD_dToY => Sys2Proof.Machine.execSubD_dToY s
  | .subRam_dToY => Sys2Proof.Machine.execSubRam_dToY s
  | .subAc_dToY => Sys2Proof.Machine.execSubAc_dToY s
  | .subIn_dToY => Sys2Proof.Machine.execSubIn_dToY s
  | .subD_dToOut => Sys2Proof.Machine.execSubD_dToOut s
  | .subRam_dToOut => Sys2Proof.Machine.execSubRam_dToOut s
  | .subAc_dToOut => Sys2Proof.Machine.execSubAc_dToOut s
  | .subIn_dToOut => Sys2Proof.Machine.execSubIn_dToOut s
  | .subD_yxIncToOut => Sys2Proof.Machine.execSubD_yxIncToOut s
  | .subRam_yxIncToOut => Sys2Proof.Machine.execSubRam_yxIncToOut s
  | .subAc_yxIncToOut => Sys2Proof.Machine.execSubAc_yxIncToOut s
  | .subIn_yxIncToOut => Sys2Proof.Machine.execSubIn_yxIncToOut s
  | .stD_dToAc => Sys2Proof.Machine.execStD_dToAc s
  | .stRam_dToAc => Sys2Proof.Machine.execStRam_dToAc s
  | .stAc_dToAc => Sys2Proof.Machine.execStAc_dToAc s
  | .stIn_dToAc => Sys2Proof.Machine.execStIn_dToAc s
  | .stD_xToAc => Sys2Proof.Machine.execStD_xToAc s
  | .stRam_xToAc => Sys2Proof.Machine.execStRam_xToAc s
  | .stAc_xToAc => Sys2Proof.Machine.execStAc_xToAc s
  | .stIn_xToAc => Sys2Proof.Machine.execStIn_xToAc s
  | .stD_ydToAc => Sys2Proof.Machine.execStD_ydToAc s
  | .stRam_ydToAc => Sys2Proof.Machine.execStRam_ydToAc s
  | .stAc_ydToAc => Sys2Proof.Machine.execStAc_ydToAc s
  | .stIn_ydToAc => Sys2Proof.Machine.execStIn_ydToAc s
  | .stD_yxToAc => Sys2Proof.Machine.execStD_yxToAc s
  | .stRam_yxToAc => Sys2Proof.Machine.execStRam_yxToAc s
  | .stAc_yxToAc => Sys2Proof.Machine.execStAc_yxToAc s
  | .stIn_yxToAc => Sys2Proof.Machine.execStIn_yxToAc s
  | .stD_dToX => Sys2Proof.Machine.execStD_dToX s
  | .stRam_dToX => Sys2Proof.Machine.execStRam_dToX s
  | .stAc_dToX => Sys2Proof.Machine.execStAc_dToX s
  | .stIn_dToX => Sys2Proof.Machine.execStIn_dToX s
  | .stD_dToY => Sys2Proof.Machine.execStD_dToY s
  | .stRam_dToY => Sys2Proof.Machine.execStRam_dToY s
  | .stAc_dToY => Sys2Proof.Machine.execStAc_dToY s
  | .stIn_dToY => Sys2Proof.Machine.execStIn_dToY s
  | .stD_dToOut => Sys2Proof.Machine.execStD_dToOut s
  | .stRam_dToOut => Sys2Proof.Machine.execStRam_dToOut s
  | .stAc_dToOut => Sys2Proof.Machine.execStAc_dToOut s
  | .stIn_dToOut => Sys2Proof.Machine.execStIn_dToOut s
  | .stD_yxIncToOut => Sys2Proof.Machine.execStD_yxIncToOut s
  | .stRam_yxIncToOut => Sys2Proof.Machine.execStRam_yxIncToOut s
  | .stAc_yxIncToOut => Sys2Proof.Machine.execStAc_yxIncToOut s
  | .stIn_yxIncToOut => Sys2Proof.Machine.execStIn_yxIncToOut s
  | .jmpD => Sys2Proof.Machine.execJmpD s
  | .jmpRam => Sys2Proof.Machine.execJmpRam s
  | .jmpAc => Sys2Proof.Machine.execJmpAc s
  | .jmpIn => Sys2Proof.Machine.execJmpIn s
  | .bgtD => Sys2Proof.Machine.execBgtD s
  | .bgtRam => Sys2Proof.Machine.execBgtRam s
  | .bgtAc => Sys2Proof.Machine.execBgtAc s
  | .bgtIn => Sys2Proof.Machine.execBgtIn s
  | .bltD => Sys2Proof.Machine.execBltD s
  | .bltRam => Sys2Proof.Machine.execBltRam s
  | .bltAc => Sys2Proof.Machine.execBltAc s
  | .bltIn => Sys2Proof.Machine.execBltIn s
  | .bneD => Sys2Proof.Machine.execBneD s
  | .bneRam => Sys2Proof.Machine.execBneRam s
  | .bneAc => Sys2Proof.Machine.execBneAc s
  | .bneIn => Sys2Proof.Machine.execBneIn s
  | .beqD => Sys2Proof.Machine.execBeqD s
  | .beqRam => Sys2Proof.Machine.execBeqRam s
  | .beqAc => Sys2Proof.Machine.execBeqAc s
  | .beqIn => Sys2Proof.Machine.execBeqIn s
  | .bgeD => Sys2Proof.Machine.execBgeD s
  | .bgeRam => Sys2Proof.Machine.execBgeRam s
  | .bgeAc => Sys2Proof.Machine.execBgeAc s
  | .bgeIn => Sys2Proof.Machine.execBgeIn s
  | .bleD => Sys2Proof.Machine.execBleD s
  | .bleRam => Sys2Proof.Machine.execBleRam s
  | .bleAc => Sys2Proof.Machine.execBleAc s
  | .bleIn => Sys2Proof.Machine.execBleIn s
  | .braD => Sys2Proof.Machine.execBraD s
  | .braRam => Sys2Proof.Machine.execBraRam s
  | .braAc => Sys2Proof.Machine.execBraAc s
  | .braIn => Sys2Proof.Machine.execBraIn s

end Sys2Proof.Machine
end

