-- ==== Sys2Proof/Machine/Step.lean ====
section
/-! DEFINITION. One clock of the system (00_scope.md R5, R9; 51_raster_timing.md R238): the CPU executes the
instruction held in (IR, D), fetching the next word as it does, then the RTI steps on the new OUT. -/

namespace Sys2Proof.Machine

/-- One clock. `exec` never answers a fault or a refusal here (60_exceptions.md R260). -/
def step (s : State) : Host.Outcome State Fault Refusal :=
  match exec (decodeOpcode s.regs.ir) s with
  | .next t => .next (endCycle t)
  | .fault f => .fault f
  | .refused r => .refused r

/-- `s` with the instruction `w` (bits numbered as spec/opcode_table.json numbers them) where the next step takes
the instruction it runs: the machine executes (IR, D), the word latched in the cycle before (10_state.md R35), so
the opcode byte goes to IR and the data byte to D (log 11, log 23). -/
def State.withFetchWord (s : State) (nbits w : Nat) : State :=
  let v := w % 2 ^ nbits
  { s with regs := { s.regs with ir := BitVec.ofNat 8 (v / 256), d := BitVec.ofNat 8 v } }

end Sys2Proof.Machine
end

