-- ==== Sys2Proof/Machine/Commands.lean ====
section
/-! DEFINITION. The host's commands between cycles (00_scope.md R5, R6; 60_exceptions.md R263, R277): supplying the
input byte and the draw, the two resets, applying an effect, loading the ROM and construction. They leave the per-cycle outputs
idle, since none of them is a cycle (log 17). -/

namespace Sys2Proof.Machine

/-- The per-cycle outputs when no cycle has just run (log 17). -/
def idleOutputs (s : State) : State := { s with effect := none, render := false, violation := false }

/-- `HARD_RESET_DRAW` of R4: the unspecified content of a hard reset (R290). `ram` lists the bytes drawn, from
address 0 on; a byte it does not reach is an unlisted one (log 7). -/
structure HardResetDraw where
  ir    : Byte
  d     : Byte
  ac    : Byte
  x     : Byte
  y     : Byte
  out   : Byte
  undef : Byte
  ram   : List Byte
deriving DecidableEq, Repr

/-- The draw behind `State.reset` (log 1, log 2). -/
def zeroDraw : HardResetDraw where
  ir    := 0x00
  d     := 0x00
  ac    := 0x00
  x     := 0x00
  y     := 0x00
  out   := 0x00
  undef := 0x00
  ram   := []

/-- `HardReset(draws)` (R290). ROM and the RTI are untouched (D28, log 25). -/
def hardReset (draw : HardResetDraw) (s : State) : State :=
  { idleOutputs s with
    regs :=
      { pc := Config.hardResetPc
        ir := draw.ir
        d := draw.d
        ac := draw.ac
        x := draw.x
        y := draw.y
        out := draw.out
        undef := draw.undef }
    ram := ramFill [] 0 draw.ram }

/-- `SoftReset()` (R291): "only reinitialize the register file's program counter and the instruction/data registers
to reflect ROM word 0". `SOFT_RESET_PC` is an argument (D6, log 19). -/
def softReset (s : State) (pc : Addr := Config.softResetPc) : State :=
  { idleOutputs s with
    regs :=
      { s.regs with
        pc := pc
        ir := (romRead s.rom 0x0000).opcode
        d := (romRead s.rom 0x0000).data } }

/-- The host supplies the input byte of a coming cycle, after those it has already supplied (R31, log 6). -/
def supplyInput (b : Byte) (s : State) : State := { idleOutputs s with inputs := s.inputs ++ [b] }

/-- The host supplies the entropy draw of a coming cycle, after those it has already supplied: "any byte"
(R277; D30, log 5). -/
def supplyDraw (u : Byte) (s : State) : State := { idleOutputs s with draws := s.draws ++ [u] }

/-- `apply(effect)` as a command (R6, R204): the new state, and the inverse effect for the host. -/
def hostApply (e : CycleEffect) (s : State) : State × CycleEffect :=
  (idleOutputs (applyEffect e s).1, (applyEffect e s).2)

/-- Construction (R293): the ROM loaded from an image, the RTI constructed with its timing (R234), the CPU hard
reset. An image that is no ROM (R66) gives no machine. -/
def construct (image : List Byte) (timing : Timing) (draw : HardResetDraw) : Option State :=
  match loadImage image with
  | some rom => some (hardReset draw { State.reset with rom := rom, timing := timing })
  | none => none

/-- What the host can do to the machine (R277). Snapshot reads change nothing (R67) and are no command. -/
inductive HostCommand where
  | clock
  | supplyInput (b : Byte)
  | supplyDraw (u : Byte)
  | hardReset (draw : HardResetDraw)
  | softReset (pc : Addr)
  | apply (e : CycleEffect)
deriving DecidableEq, Repr

/-- The machine after one command of the host. -/
def command (c : HostCommand) (s : State) : Host.Outcome State Fault Refusal :=
  match c with
  | .clock => step s
  | .supplyInput b => .next (supplyInput b s)
  | .supplyDraw u => .next (supplyDraw u s)
  | .hardReset draw => .next (hardReset draw s)
  | .softReset pc => .next (softReset s pc)
  | .apply e => .next (hostApply e s).1

end Sys2Proof.Machine
end

