-- ==== Sys2Proof/Machine/Reference.lean ====
section
/-! DEFINITION. The CPU step of 40_execution_cycle.md R138 and the RTI step of 51_raster_timing.md R237, each
transcribed as the one block the spec gives, line by line and on numbers. The machine does not call them: they are
what the decoder, the 256 meanings and `rtiStep` are stated to be equal to. -/

namespace Sys2Proof.Machine

/-- What `Step` of R138 answers: `(S', RAM', event)`. -/
structure ReferenceResult where
  regs  : Regs
  ram   : Memory
  event : MemEvent
deriving DecidableEq, Repr

/-- The table of the `case mode of` lines of R138: destination, `lo` is X, `hi` is Y, `incx`. -/
def referenceMode (mode : Nat) : Dest × Bool × Bool × Bool :=
  if mode = 0 then (.ac, false, false, false)
  else if mode = 1 then (.ac, true, false, false)
  else if mode = 2 then (.ac, false, true, false)
  else if mode = 3 then (.ac, true, true, false)
  else if mode = 4 then (.x, false, false, false)
  else if mode = 5 then (.y, false, false, false)
  else if mode = 6 then (.out, false, false, false)
  else (.out, true, true, true)

/-- `Step(S, RAM, in, u)` of R138, with ROM a constant. -/
def referenceStep (rom : List RomWord) (s : Regs) (ram : Memory) (inp u : Byte) : ReferenceResult :=
  let next := romRead rom s.pc
  let op := s.ir.toNat / 32
  let mode := s.ir.toNat / 4 % 8
  let bus := s.ir.toNat % 4
  let write := decide (op = 6)
  let jump := decide (op = 7)
  let form := if jump then (Dest.none, false, false, false) else referenceMode mode
  let dest := if write && (form.1 == .ac || form.1 == .out) then .none else form.1
  let lo := if form.2.1 then s.x else s.d
  let hi := if form.2.2.1 then s.y else 0
  let incx := form.2.2.2
  let a := ramIndex (hi ++ lo)
  let b : Byte :=
    if bus = 0 then s.d
    else if bus = 1 then (if write then s.undef else ramRead ram a)
    else if bus = 2 then s.ac
    else inp
  let event : MemEvent :=
    if write then .write a (ramRead ram a) b else if bus = 1 then .read a b else .none
  let alu : Byte :=
    if op = 0 then b
    else if op = 1 then s.ac &&& b
    else if op = 2 then s.ac ||| b
    else if op = 3 then s.ac ^^^ b
    else if op = 4 then BitVec.ofNat 8 ((s.ac.toNat + b.toNat) % 256)
    else if op = 5 then BitVec.ofNat 8 ((s.ac.toNat + 256 - b.toNat) % 256)
    else s.ac
  let pcNext : Addr := BitVec.ofNat 16 ((s.pc.toNat + 1) % 65536)
  let c := s.ac.toNat / 128 + 2 * (if s.ac.toNat = 0 then 1 else 0)
  { regs :=
      { pc :=
          if jump then
            if mode = 0 then BitVec.ofNat 16 (256 * s.y.toNat + b.toNat)
            else if mode / 2 ^ c % 2 = 1 then BitVec.ofNat 16 (256 * (s.pc.toNat / 256) + b.toNat)
            else pcNext
          else pcNext
        ir := next.opcode
        d := next.data
        ac := if dest = .ac then alu else s.ac
        x := if incx then BitVec.ofNat 8 ((s.x.toNat + 1) % 256) else if dest = .x then alu else s.x
        y := if dest = .y then alu else s.y
        out := if dest = .out then alu else s.out
        undef := u }
    ram := if write then ramWrite ram a b else ram
    event := event }

/-- What `RtiStep` of R237 answers: `(T, render, violation)`. -/
structure ReferenceRti where
  rti       : Rti
  render    : Bool
  violation : Bool
deriving DecidableEq, Repr

/-- `RtiStep(T, o)` of R237. -/
def referenceRti (t : Timing) (r : Rti) (o : Byte) : ReferenceRti :=
  let vfall := r.prev.toNat / 128 % 2 = 1 ∧ o.toNat / 128 % 2 = 0
  let hfall := r.prev.toNat / 64 % 2 = 1 ∧ o.toNat / 64 % 2 = 0
  let line0 := if vfall then -1 else r.line
  let cursor0 := if vfall then 0 else r.cursor
  let front := if vfall then r.back else r.front
  let line := if hfall then line0 + 1 else line0
  let col := if hfall then 0 else r.col
  let hstart := t.h.backPorch + t.h.pulse
  let vstart := t.v.backPorch + t.v.pulse
  let visible := (vstart : Int) ≤ line ∧ line < vstart + t.v.visible ∧ hstart ≤ col ∧ col < hstart + t.h.visible
  let npix := t.h.visible * t.v.visible
  let p : Pixel :=
    ⟨BitVec.ofNat 8 (85 * (o.toNat % 4)), BitVec.ofNat 8 (85 * (o.toNat / 4 % 4)),
      BitVec.ofNat 8 (85 * (o.toNat / 16 % 4))⟩
  let put := fun (f : Frame) (k : Nat) => if cursor0 + k < npix then frameWrite f (cursor0 + k) p else f
  { rti :=
      { prev := o
        line := line
        col := col + 4
        cursor := if visible then cursor0 + 4 else cursor0
        back := if visible then [0, 1, 2, 3].foldl put r.back else r.back
        front := front }
    render := decide vfall
    violation :=
      decide (hfall ∧ r.col ≠ t.h.frontPorch + t.h.pulse + t.h.backPorch + t.h.visible) }

end Sys2Proof.Machine
end

