-- ==== Sys2Proof/Safety.lean ====
section
/-! DEFINITION. What a safe run is, in the terms the statements use: the invariant of the state, going on, several
clocks, and undoing them. -/

namespace Sys2Proof.Machine

/-- The invariant of the machine's data. It is the model's own: canonical stores, an image that fits the ROM, a line
counter not below its sentinel (R223), and positions in whole cycles (R231). -/
structure Inv (s : State) : Prop where
  ram_wf      : Memory.wf s.ram
  rom_fits    : s.rom.length ≤ Config.romWords
  back_wf     : Frame.wf (pixelCount s.timing) s.rti.back
  front_wf    : Frame.wf (pixelCount s.timing) s.rti.front
  line_low    : -1 ≤ s.rti.line
  col_whole   : 4 ∣ s.rti.col
  cursor_whole : 4 ∣ s.rti.cursor

/-- Two states that agree in RAM and in every register but UNDEF: the equality of R209. -/
def SameButUndef (s t : State) : Prop :=
  s.ram = t.ram ∧ { s.regs with undef := 0 } = { t.regs with undef := 0 }

/-- An effect without the UNDEF it carries (R209). -/
def withoutUndef (e : CycleEffect) : CycleEffect := { e with regs := { e.regs with undef := 0 } }

/-- Two states in which the CPU, its memories, its inputs and its draws are the same: all but the RTI, its
configuration and the outputs of the last cycle. -/
def SameCpu (s t : State) : Prop :=
  s.regs = t.regs ∧ s.ram = t.ram ∧ s.rom = t.rom ∧ s.inputs = t.inputs ∧ s.draws = t.draws ∧ s.cycle = t.cycle

/-- `n` clocks from `s`. -/
def clocks : Nat → State → Host.Outcome State Fault Refusal
  | 0, s => .next s
  | n + 1, s =>
    match step s with
    | .next t => clocks n t
    | .fault f => .fault f
    | .refused r => .refused r

/-- `n` clocks from `s`, with the effect of each, the first cycle's first, each with its inverse (R206, R208).
It stops with nothing if a step does not answer a next state. -/
def advances : Nat → State → Option (State × List (CycleEffect × CycleEffect))
  | 0, s => some (s, [])
  | n + 1, s =>
    match step s with
    | .next t =>
      match t.effect, advances n t with
      | some e, some (u, log) => some (u, (e, (applyEffect e s).2) :: log)
      | _, _ => none
    | .fault _ => none
    | .refused _ => none

/-- Applies effects one after the other, the head of the list first, and collects the inverses they return
in that order (R204, R208). -/
def applyAll : List CycleEffect → State → State × List CycleEffect
  | [], s => (s, [])
  | e :: l, s =>
    let r := hostApply e s
    let q := applyAll l r.1
    (q.1, r.2 :: q.2)

/-- The RTI stepped on a list of OUT bytes, with each cycle's outputs (R220). -/
def rtiRun (t : Timing) : Rti → List Byte → Rti × List (Bool × Bool)
  | r, [] => (r, [])
  | r, o :: l =>
    let a := rtiStep t r o
    let q := rtiRun t a.rti l
    (q.1, (a.render, a.violation) :: q.2)

/-- The falling edges of a list of OUT bytes after the byte `prev`: for each byte, whether the vertical and whether
the horizontal sync bit falls (R225). -/
def edgesOf (prev : Byte) : List Byte → List (Bool × Bool)
  | [] => []
  | o :: l => (verticalFall prev o, horizontalFall prev o) :: edgesOf o l

/-- The edges of one scan line of bytes: a horizontal falling edge in its first cycle, no other (R311). -/
def lineEdges : List Byte → List (Bool × Bool)
  | [] => []
  | _ :: l => (false, true) :: l.map fun _ => (false, false)

end Sys2Proof.Machine
end

