-- ==== Sys2Proof/Certificates/Slice0/Obligations.lean ====
section
/-! DEFINITION. The statements for the provers, from the numbered rules of spec/. -/

namespace Sys2Proof.Claims

open Sys2Proof.Machine

/-- What every CPU cycle does whatever the instruction, and what it leaves: the PC becomes `pc`, (IR, D) the word
fetched from the PC before the cycle, UNDEF the draw; the cycle's effect is the registers after it, the PC before it
and the memory event `ev`; ROM, the RTI and its outputs, the configuration, the inputs, the draws and the cycle
number are untouched. -/
structure CpuCycle (s t : State) (pc : Addr) (ev : MemEvent) : Prop where
  pc        : t.regs.pc = pc
  ir        : t.regs.ir = (romRead s.rom s.regs.pc).opcode
  d         : t.regs.d = (romRead s.rom s.regs.pc).data
  undef     : t.regs.undef = entropyDraw s
  effect    : t.effect = some ⟨t.regs, s.regs.pc, ev⟩
  rom       : t.rom = s.rom
  rti       : t.rti = s.rti
  timing    : t.timing = s.timing
  inputs    : t.inputs = s.inputs
  draws     : t.draws = s.draws
  cycle     : t.cycle = s.cycle
  render    : t.render = s.render
  violation : t.violation = s.violation

/-- Every byte of RAM reads as before. -/
def RamKept (s t : State) : Prop := ∀ k : RamAddr, ramRead t.ram k = ramRead s.ram k

/-- The result of an ALU row in every mode and with every bus source: it completes; the destination the mode names
receives `f AC b`; mode 7 increments X; nothing else among AC, X, Y, OUT changes, and no byte of RAM. -/
def AluRow (instr : Mode → Bus → Instr) (f : Byte → Byte → Byte) : Prop :=
  ∀ (m : Mode) (b : Bus) (s : State),
    let a := operandAddress m s.regs
    let v := busValue b a s
    ∃ t, exec (instr m b) s = .next t ∧
      t.regs.ac = (if m ∈ [Mode.dToAc, .xToAc, .ydToAc, .yxToAc] then f s.regs.ac v else s.regs.ac) ∧
      t.regs.x = (if m = .dToX then f s.regs.ac v else if m = .yxIncToOut then s.regs.x + 1 else s.regs.x) ∧
      t.regs.y = (if m = .dToY then f s.regs.ac v else s.regs.y) ∧
      t.regs.out = (if m ∈ [Mode.dToOut, .yxIncToOut] then f s.regs.ac v else s.regs.out) ∧
      RamKept s t ∧
      CpuCycle s t (s.regs.pc + 1) (if b = .ram then .read a v else .none)

/-- The result of a jump with every bus source: it completes; the PC becomes `target` of the start state and the
bus value; AC, X, Y, OUT and every byte of RAM are unchanged; with bus field Ram the byte at {0x00, D} is read. -/
def JumpRow (c : Cond) (target : State → Byte → Addr) : Prop :=
  ∀ (b : Bus) (s : State),
    let a := jumpAddress s.regs
    let v := busValue b a s
    ∃ t, exec (jumpInstr c b) s = .next t ∧
      t.regs.ac = s.regs.ac ∧ t.regs.x = s.regs.x ∧ t.regs.y = s.regs.y ∧ t.regs.out = s.regs.out ∧
      RamKept s t ∧
      CpuCycle s t (target s v) (if b = .ram then .read a v else .none)

/-- The PC of a branch within the page of S.PC that is taken when `cond` holds of AC. -/
def branchPc (cond : Byte → Prop) [DecidablePred cond] (s : State) (v : Byte) : Addr :=
  if cond s.regs.ac then BitVec.ofNat 16 (256 * (s.regs.pc.toNat / 256) + v.toNat) else s.regs.pc + 1

end Sys2Proof.Claims

open Sys2Proof Sys2Proof.Machine Sys2Proof.Claims

/-! ### Encoding -/

/-- The decode table of 95_test_vectors.md 2.6, whose opcode bytes rest on the spec's decision D1 (log 12). -/
def Obligations.SampleWordsDecode : Prop :=
  decode [0x00, 0x42] = .ok .ldD_dToAc 0x42 [] ∧
  decode [0x02, 0x00] = .ok .ldAc_dToAc 0x00 [] ∧
  decode [0x1D, 0x07] = .ok .ldRam_yxIncToOut 0x07 [] ∧
  decode [0x20, 0x0F] = .ok .andD_dToAc 0x0F [] ∧
  decode [0x5A, 0x00] = .ok .orAc_dToOut 0x00 [] ∧
  decode [0x61, 0x30] = .ok .xorRam_dToAc 0x30 [] ∧
  decode [0x80, 0x02] = .ok .addD_dToAc 0x02 [] ∧
  decode [0xA7, 0x00] = .ok .subIn_xToAc 0x00 [] ∧
  decode [0xD2, 0x10] = .ok .stAc_dToX 0x10 [] ∧
  decode [0xDF, 0x00] = .ok .stIn_yxIncToOut 0x00 [] ∧
  decode [0xE0, 0x34] = .ok .jmpD 0x34 [] ∧
  decode [0xF0, 0x40] = .ok .beqD 0x40 [] ∧
  decode [0xFF, 0xFF] = .ok .braIn 0xFF []

/-- Decoding an encoded instruction gives it back, with its data byte and whatever follows it (R92; the numbers of
the fields rest on D1, log 12). -/
def Obligations.DecodeOfEncodeIsIdentity : Prop :=
  ∀ (i : Instr) (d : Byte) (rest : List Byte), i.wellFormed = true →
    decode (encodeBytes i d ++ rest) = .ok i d rest

/-- Decoding loses no bit: what is decoded encodes to the bytes it was decoded from, and a string is rejected only
for being shorter than a word. -/
def Obligations.EncodeOfDecodeIsIdentity : Prop :=
  ∀ bytes : List Byte,
    (2 ≤ bytes.length →
      ∃ i d rest, decode bytes = .ok i d rest ∧ encodeBytes i d ++ rest = bytes) ∧
    (bytes.length < 2 → decode bytes = .rejected .truncated)

/-- R87: the decoder is the three fields and nothing else, total, and a bijection of opcode bytes and rows. -/
def Obligations.DecodeIsTotalAndOneToOne : Prop :=
  (∀ v : Byte,
    (operationCode (fieldsOf (decodeOpcode v)).op).toNat = v.toNat / 32 ∧
    (fieldsOf (decodeOpcode v)).mode.toNat = v.toNat / 4 % 8 ∧
    (busCode (fieldsOf (decodeOpcode v)).bus).toNat = v.toNat % 4) ∧
  (∀ v w : Byte, decodeOpcode v = decodeOpcode w → v = w) ∧
  (∀ i : Instr, ∃ v : Byte, decodeOpcode v = i) ∧
  (∀ v d : Byte, decode [v, d] = .ok (decodeOpcode v) d [])

/-- R66 with the spec's decision D22 (log 11): a ROM image of whole pairs that fits is the list of its pairs in order,
any other image has no ROM, and a word past the image is `ROM_FILL`. -/
def Obligations.RomImageIsReadInPairs : Prop :=
  (∀ image : List Byte, image.length % 2 = 0 → image.length ≤ 2 * 65536 →
    ∃ rom, loadImage image = some rom ∧ 2 * rom.length = image.length ∧
      ∀ k, k < rom.length → ∃ o d, image[2 * k]? = some o ∧ image[2 * k + 1]? = some d ∧ rom[k]? = some ⟨o, d⟩) ∧
  (∀ image : List Byte, image.length % 2 = 1 ∨ 2 * 65536 < image.length → loadImage image = none) ∧
  (∀ (rom : List RomWord) (a : Addr), rom.length ≤ a.toNat → romRead rom a = Config.romFill a)

/-! ### Operands -/

/-- R116, R117, R118 and R121: modes 2, 3, 4 and 7. -/
def Obligations.ModesWithASettledHighByte : Prop :=
  ∀ r : Regs,
    (modeHi .ydToAc r = r.y ∧ modeLo .ydToAc r = r.d ∧ modeDest .ydToAc = .ac ∧ modeIncX .ydToAc = false) ∧
    (modeHi .yxToAc r = r.y ∧ modeLo .yxToAc r = r.x ∧ modeDest .yxToAc = .ac ∧ modeIncX .yxToAc = false) ∧
    (modeHi .dToX r = 0x00 ∧ modeLo .dToX r = r.d ∧ modeDest .dToX = .x ∧ modeIncX .dToX = false) ∧
    (modeHi .yxIncToOut r = r.y ∧ modeLo .yxIncToOut r = r.x ∧ modeDest .yxIncToOut = .out ∧
      modeIncX .yxIncToOut = true)

/-- Modes 0, 1, 5 and 6 and the jumps address the zero page: the spec's decisions D4 (log 13) and D3 (log 14). -/
def Obligations.ZeroPageModesAndJumps : Prop :=
  ∀ r : Regs,
    (operandAddress .dToAc r).toNat = r.d.toNat ∧ modeDest .dToAc = .ac ∧
    (operandAddress .xToAc r).toNat = r.x.toNat ∧ modeDest .xToAc = .ac ∧
    (operandAddress .dToY r).toNat = r.d.toNat ∧ modeDest .dToY = .y ∧
    (operandAddress .dToOut r).toNat = r.d.toNat ∧ modeDest .dToOut = .out ∧
    (∀ m ∈ [Mode.dToAc, .xToAc, .dToY, .dToOut], modeIncX m = false) ∧
    (jumpAddress r).toNat = r.d.toNat

/-- R52 and R53: an effective address is masked with 0x7FFF, so that Y = 0x80 + k reaches the page of Y = k. -/
def Obligations.AddressesAliasInBit15 : Prop :=
  (∀ a : Addr, (ramIndex a).toNat = (a &&& 0x7FFF).toNat ∧ ramIndex (a ^^^ 0x8000) = ramIndex a) ∧
  (∀ (m : Mode) (r : Regs), operandAddress m { r with y := r.y ^^^ 0x80 } = operandAddress m r) ∧
  (∀ (m : Mode) (r : Regs), (operandAddress m r).toNat = (256 * (modeHi m r).toNat + (modeLo m r).toNat) % 32768)

/-- R125, R126, R128, R129: the bus value, and the read event of bus field Ram, of what is no store. The last clause is
the model's own choice, no rule of the spec: that the cycle's input byte is the head of the model's list `inputs`, where
that list holds one (DESIGN CHOICE, log 6). -/
def Obligations.BusSelectsItsSource : Prop :=
  ∀ (a : RamAddr) (s : State),
    (busValue .data a s = s.regs.d ∧ busEvent .data a s = .none) ∧
    (busValue .ram a s = ramRead s.ram a ∧ busEvent .ram a s = .read a (ramRead s.ram a)) ∧
    (busValue .ac a s = s.regs.ac ∧ busEvent .ac a s = .none) ∧
    (busValue .input a s = inputByte s ∧ busEvent .input a s = .none) ∧
    (∀ b l, s.inputs = b :: l → inputByte s = b)

/-! ### The instructions: each completes, with its result and its frame -/

/-- R150: the result of LD is the bus value. -/
def Obligations.LoadResultAndFrame : Prop := AluRow ldInstr fun _ b => b

/-- R151, R152, R153: AND, OR and XOR act on each bit of AC and the bus value. -/
def Obligations.LogicResultAndFrame : Prop :=
  AluRow andInstr (fun ac b => ac &&& b) ∧ AluRow orInstr (fun ac b => ac ||| b) ∧
    AluRow xorInstr (fun ac b => ac ^^^ b)

/-- R154, R156: the sum modulo 256. -/
def Obligations.AddResultAndFrame : Prop :=
  AluRow addInstr fun ac b => BitVec.ofNat 8 ((ac.toNat + b.toNat) % 256)

/-- R155, R156: AC minus the bus value, modulo 256, a result in 0 to 255. -/
def Obligations.SubResultAndFrame : Prop :=
  AluRow subInstr fun ac b => BitVec.ofInt 8 (((ac.toNat : Int) - b.toNat) % 256)

/-- R170 to R176: ST writes the bus value (UNDEF with bus field Ram: D7, log 15) to the one byte at the mode's address,
gives X (mode 4) or Y (mode 5) the accumulator, increments X in mode 7, and changes nothing else. -/
def Obligations.StoreResultAndFrame : Prop :=
  ∀ (m : Mode) (b : Bus) (s : State),
    let a := operandAddress m s.regs
    let v : Byte :=
      match b with
      | .data => s.regs.d
      | .ram => s.regs.undef
      | .ac => s.regs.ac
      | .input => inputByte s
    ∃ t, exec (stInstr m b) s = .next t ∧
      t.regs.ac = s.regs.ac ∧
      t.regs.x = (if m = .dToX then s.regs.ac else if m = .yxIncToOut then s.regs.x + 1 else s.regs.x) ∧
      t.regs.y = (if m = .dToY then s.regs.ac else s.regs.y) ∧
      t.regs.out = s.regs.out ∧
      (∀ k : RamAddr, ramRead t.ram k = if k = a then v else ramRead s.ram k) ∧
      CpuCycle s t (s.regs.pc + 1) (.write a (ramRead s.ram a) v)

/-- R181: JMP goes to {Y, bus value}. The RAM address of its bus field Ram rests on D3 (log 14). -/
def Obligations.FarJumpResultAndFrame : Prop :=
  JumpRow .jmp fun s v => BitVec.ofNat 16 (256 * s.regs.y.toNat + v.toNat)

/-- R182, R183, R186, R187: the branches on the sign of AC, read as a signed number. -/
def Obligations.SignBranchesResultAndFrame : Prop :=
  JumpRow .bgt (branchPc fun ac => 0 < ac.toInt) ∧ JumpRow .blt (branchPc fun ac => ac.toInt < 0) ∧
    JumpRow .bge (branchPc fun ac => 0 ≤ ac.toInt) ∧ JumpRow .ble (branchPc fun ac => ac.toInt ≤ 0)

/-- R184, R185: the branches on AC being zero. -/
def Obligations.ZeroBranchesResultAndFrame : Prop :=
  JumpRow .bne (branchPc fun ac => ac ≠ 0) ∧ JumpRow .beq (branchPc fun ac => ac = 0)

/-- R188: BRA is taken for every AC and keeps the page. -/
def Obligations.BranchAlwaysResultAndFrame : Prop := JumpRow .bra (branchPc fun _ => True)

/-- R180: the condition index, its three values, and the bit of the mode field it selects. -/
def Obligations.BranchConditionSelector : Prop :=
  (∀ ac : Byte,
    conditionIndex ac = (ac.getLsbD 7).toNat + 2 * (if ac = 0 then 1 else 0) ∧
    (1 ≤ ac.toNat ∧ ac.toNat ≤ 127 → conditionIndex ac = 0) ∧
    (128 ≤ ac.toNat → conditionIndex ac = 1) ∧
    (ac.toNat = 0 → conditionIndex ac = 2)) ∧
  (∀ (c : Cond) (b : Bus) (s : State), c ≠ .jmp →
    ∃ t, exec (jumpInstr c b) s = .next t ∧ t.regs.ac = s.regs.ac ∧
      t.regs.pc =
        if (condCode c).getLsbD (conditionIndex s.regs.ac) then pageTarget s (busValue b (jumpAddress s.regs) s)
        else s.regs.pc + 1)

/-! ### The step -/

/-- A step is `exec` of the instruction that (IR, D) decode to, which completes, then the RTI's step on the new OUT, with
the cycle's input byte, draw and number used up (R110, R238; log 5, log 6). -/
def Obligations.StepRunsTheDecodedInstruction : Prop :=
  ∀ (s : State) (i : Instr), decode [s.regs.ir, s.regs.d] = .ok i s.regs.d [] → i.wellFormed = true →
    ∃ t, exec i s = .next t ∧
      step s = .next
        { t with
          rti := (rtiStep t.timing t.rti t.regs.out).rti
          render := (rtiStep t.timing t.rti t.regs.out).render
          violation := (rtiStep t.timing t.rti t.regs.out).violation
          inputs := t.inputs.tail
          draws := t.draws.tail
          cycle := t.cycle + 1 }

/-- The machine is the blocks of R138 and R237 coupled as R238 says. -/
def Obligations.StepIsTheReferenceBlocks : Prop :=
  ∀ s : State,
    let c := referenceStep s.rom s.regs s.ram (inputByte s) (entropyDraw s)
    let v := referenceRti s.timing s.rti c.regs.out
    step s = .next
      { regs := c.regs
        ram := c.ram
        rom := s.rom
        rti := v.rti
        timing := s.timing
        inputs := s.inputs.tail
        draws := s.draws.tail
        cycle := s.cycle + 1
        effect := some ⟨c.regs, s.regs.pc, c.event⟩
        render := v.render
        violation := v.violation }

/-- R260: there is no exception to raise, and no instruction is refused and none faults, in any state; neither is any
clock or command of the host. -/
def Obligations.NothingEverStops : Prop :=
  (∀ _ : Fault, False) ∧
  (∀ (i : Instr) (s : State), ∃ t, exec i s = .next t) ∧
  (∀ s : State, ∃ t, step s = .next t) ∧
  (∀ (c : HostCommand) (s : State), ∃ t, command c s = .next t)

/-- R111 and R136: after a cycle, also one that jumps, (IR, D) is the ROM word at the PC of its start. -/
def Obligations.FetchedWordIsLatched : Prop :=
  ∀ s : State, ∃ t, step s = .next t ∧
    t.regs.ir = (romRead s.rom s.regs.pc).opcode ∧ t.regs.d = (romRead s.rom s.regs.pc).data

/-- R189, the delay slot of a far jump: the word at S.PC executes next, the word at the target after it. -/
def Obligations.DelaySlotOfAFarJump : Prop :=
  ∀ s : State, s.regs.ir = 0xE0 →
    ∃ t u, step s = .next t ∧ step t = .next u ∧
      decodeOpcode t.regs.ir = decodeOpcode (romRead s.rom s.regs.pc).opcode ∧
      t.regs.d = (romRead s.rom s.regs.pc).data ∧
      t.regs.pc = s.regs.y ++ s.regs.d ∧
      u.regs.ir = (romRead s.rom (s.regs.y ++ s.regs.d)).opcode ∧
      u.regs.d = (romRead s.rom (s.regs.y ++ s.regs.d)).data ∧
      (operationBits t.regs.ir ≠ 7 → u.regs.pc = s.regs.y ++ s.regs.d + 1)

/-- R190 and R301: a branch that stands at `j` and executes with S.PC = j + 1 lands, when it is taken, in the page of
j + 1, or it goes on at j + 2. -/
def Obligations.BranchPageIsThatOfTheDelaySlot : Prop :=
  ∀ (j : Addr) (c : Cond) (b : Bus) (s : State), c ≠ .jmp → s.regs.ir = encodeOpcode (jumpInstr c b) →
    s.regs.pc = j + 1 →
    ∃ t, step s = .next t ∧
      (branchTaken (condCode c) s.regs.ac = true → t.regs.pc.toNat / 256 = (j.toNat + 1) % 65536 / 256) ∧
      (branchTaken (condCode c) s.regs.ac = false → t.regs.pc = j + 2)

/-- R134: only a taken jump leaves the sequence. -/
def Obligations.OnlyTakenJumpsLeaveTheSequence : Prop :=
  ∀ s : State, ∃ t, step s = .next t ∧
    (operationBits s.regs.ir ≠ 7 → t.regs.pc.toNat = (s.regs.pc.toNat + 1) % 65536) ∧
    (operationBits s.regs.ir = 7 → modeBits s.regs.ir ≠ 0 →
      (modeBits s.regs.ir).getLsbD (conditionIndex s.regs.ac) = false →
      t.regs.pc.toNat = (s.regs.pc.toNat + 1) % 65536)

/-- R132 and R133: write-back and post-increment of every instruction, by the fields of IR: the destination (masked on
a store, none on a jump) receives the ALU result, mode 7 of a non-jump increments X, and the rest of AC, X, Y and OUT
keep their values. -/
def Obligations.WriteBackFollowsTheModeField : Prop :=
  ∀ s : State,
    let op := operationOf (operationBits s.regs.ir)
    let m := modeOf (modeBits s.regs.ir)
    let b := busOf (busBits s.regs.ir)
    let v := busValue b (operandAddress m s.regs) s
    let alu : Byte :=
      match op with
      | .load => v
      | .and => s.regs.ac &&& v
      | .or => s.regs.ac ||| v
      | .xor => s.regs.ac ^^^ v
      | .add => s.regs.ac + v
      | .sub => s.regs.ac - v
      | .store => s.regs.ac
      | .jump => 0
    let dest := if op = .jump then Dest.none else if op = .store then maskDest (modeDest m) else modeDest m
    let incx := decide (op ≠ .jump ∧ m = .yxIncToOut)
    ∃ t, step s = .next t ∧
      t.regs.ac = (if dest = .ac then alu else s.regs.ac) ∧
      t.regs.y = (if dest = .y then alu else s.regs.y) ∧
      t.regs.out = (if dest = .out then alu else s.regs.out) ∧
      t.regs.x = (if incx = true then BitVec.ofNat 8 ((s.regs.x.toNat + 1) % 256)
        else if dest = .x then alu else s.regs.x)

/-- R91: opcode byte 0x02 changes only PC, IR, D and UNDEF of the CPU, whatever its data byte (its number rests on D1,
log 12). -/
def Obligations.NopChangesOnlyTheFetchState : Prop :=
  ∀ s : State, s.regs.ir = 0x02 →
    ∃ t, step s = .next t ∧ t.ram = s.ram ∧
      t.regs =
        { s.regs with
          pc := s.regs.pc + 1
          ir := (romRead s.rom s.regs.pc).opcode
          d := (romRead s.rom s.regs.pc).data
          undef := entropyDraw s }

/-- R171: a store never changes AC and never changes OUT. -/
def Obligations.StoreNeverChangesAcOrOut : Prop :=
  ∀ s : State, operationBits s.regs.ir = 6 →
    ∃ t, step s = .next t ∧ t.regs.ac = s.regs.ac ∧ t.regs.out = s.regs.out

/-- R62: a byte stored in one cycle is what a load of the same RAM index gives in the next. -/
def Obligations.StoredByteIsReadBack : Prop :=
  ∀ (m n : Mode) (b : Bus) (s : State),
    s.regs.ir = encodeOpcode (stInstr m b) →
    (romRead s.rom s.regs.pc).opcode = encodeOpcode (ldInstr n .ram) →
    ∃ t u, step s = .next t ∧ step t = .next u ∧
      (operandAddress n t.regs = operandAddress m s.regs →
        u.effect.map CycleEffect.mem = some (.read (operandAddress m s.regs) (storeValue b s)) ∧
        (modeDest n = .ac → u.regs.ac = storeValue b s) ∧
        (modeDest n = .out → u.regs.out = storeValue b s))

/-! ### What a cycle never does -/

/-- R137 and R65: no clock and no command of the host writes ROM, or the RTI's configuration. -/
def Obligations.RomAndConfigurationNeverChange : Prop :=
  ∀ (c : HostCommand) (s t : State), command c s = .next t → t.rom = s.rom ∧ t.timing = s.timing

/-- R67 and R137: a RAM byte changes only by a store at its address, by a hard reset, or by applying a write event
at its address. -/
def Obligations.OnlyStoreResetAndApplyChangeRam : Prop :=
  ∀ (c : HostCommand) (s t : State) (k : RamAddr), command c s = .next t →
    ramRead t.ram k ≠ ramRead s.ram k →
    (c = .clock ∧ operationBits s.regs.ir = 6 ∧ k = operandAddress (modeOf (modeBits s.regs.ir)) s.regs) ∨
    (∃ w, c = .hardReset w) ∨
    (∃ e p n, c = .apply e ∧ e.mem = .write k p n)

/-- R137: a cycle reads UNDEF only if it is a store with bus field Ram: in any other, another UNDEF gives the very
same next state. -/
def Obligations.FloatingBusReachesOnlyRamBusStores : Prop :=
  ∀ (s : State) (w : Byte), ¬ (operationBits s.regs.ir = 6 ∧ busBits s.regs.ir = 1) →
    step { s with regs := { s.regs with undef := w } } = step s

/-- R137: a cycle reads the input byte only if its bus field is In. That the byte stands at the head of `inputs` is the
model's own choice (DESIGN CHOICE, log 6). -/
def Obligations.InputReachesOnlyBusIn : Prop :=
  ∀ (s : State) (w : Byte), busBits s.regs.ir ≠ 3 → step { s with inputs := w :: s.inputs.tail } = step s

/-- R137: no instruction reads OUT: from states that differ in OUT alone, an instruction gives states whose RAM and whose
other registers are the same. -/
def Obligations.OutIsNeverReadByTheCpu : Prop :=
  ∀ (i : Instr) (s : State) (w : Byte),
    ∃ t u, exec i s = .next t ∧ exec i { s with regs := { s.regs with out := w } } = .next u ∧
      u.ram = t.ram ∧ { u.regs with out := 0 } = { t.regs with out := 0 } ∧
      (u.regs.out = t.regs.out ∨ (t.regs.out = s.regs.out ∧ u.regs.out = w))

/-- R220, R236, R238: the RTI never influences the CPU: runs of any length from states that differ in the RTI, its
configuration and its outputs agree in everything of the CPU. -/
def Obligations.RtiNeverInfluencesTheCpu : Prop :=
  ∀ (n : Nat) (s s' : State), SameCpu s s' →
    ∃ t t', clocks n s = .next t ∧ clocks n s' = .next t' ∧ SameCpu t t'

/-! ### Reversible stepping -/

/-- R202 (and R56, R61): the memory event of every cycle. -/
def Obligations.MemoryEventOfEveryCycle : Prop :=
  ∀ s : State, ∃ t e, step s = .next t ∧ t.effect = some e ∧
    (operationBits s.regs.ir = 6 →
      let a := operandAddress (modeOf (modeBits s.regs.ir)) s.regs
      let v := storeValue (busOf (busBits s.regs.ir)) s
      e.mem = .write a (ramRead s.ram a) v ∧ ramRead t.ram a = v) ∧
    (operationBits s.regs.ir ≠ 6 → busBits s.regs.ir = 1 →
      let a := if operationBits s.regs.ir = 7 then jumpAddress s.regs
        else operandAddress (modeOf (modeBits s.regs.ir)) s.regs
      e.mem = .read a (ramRead s.ram a)) ∧
    (operationBits s.regs.ir ≠ 6 → busBits s.regs.ir ≠ 1 → e.mem = .none)

/-- R201: `queued` is the PC before the cycle, the address of the instruction that is in (IR, D) after it and executes in
the next one. -/
def Obligations.QueuedIsTheAddressThatExecutesNext : Prop :=
  ∀ s : State, ∃ t e, step s = .next t ∧ t.effect = some e ∧ e.queued = s.regs.pc ∧ e.regs = t.regs ∧
    t.regs.ir = (romRead s.rom e.queued).opcode ∧ t.regs.d = (romRead s.rom e.queued).data ∧
    ∃ w, exec (decodeOpcode (romRead s.rom e.queued).opcode) t = .next w ∧ step t = .next (endCycle w)

/-- R203, R206: the state a clock leaves is the state `Apply` gives of the cycle's effect. -/
def Obligations.AdvanceIsApplyOfTheEffect : Prop :=
  ∀ s : State, ∃ t e, step s = .next t ∧ t.effect = some e ∧
    (applyEffect e s).1.regs = t.regs ∧ (applyEffect e s).1.ram = t.ram ∧
    (∀ a p n, e.mem = .write a p n → p = ramRead s.ram a)

/-- R207: applying an effect whose `prev` fits, then its inverse, restores RAM and every register but UNDEF, and gives
the effect back (UNDEF aside, R209). RAM in canonical form is the model's own premise. -/
def Obligations.ApplyThenInverseRestores : Prop :=
  ∀ (e : CycleEffect) (s : State), Memory.wf s.ram →
    (∀ a p n, e.mem = .write a p n → p = ramRead s.ram a) →
    let r := hostApply e s
    let q := hostApply r.2 r.1
    SameButUndef q.1 s ∧ withoutUndef q.2 = withoutUndef e

/-- R208: `n` clocks, then their inverse effects in reverse order, restore RAM and every register but UNDEF, and the
effects those applications return are the forward effects, the last first. -/
def Obligations.UndoRestoresAnySequence : Prop :=
  ∀ (n : Nat) (s : State), Memory.wf s.ram →
    ∃ u log, advances n s = some (u, log) ∧ log.length = n ∧
      let q := applyAll (log.reverse.map Prod.snd) u
      SameButUndef q.1 s ∧ q.2.map withoutUndef = (log.reverse.map Prod.fst).map withoutUndef

/-! ### Invariant -/

/-- The invariant holds at reset. -/
def Obligations.ResetMeetsTheInvariant : Prop := Inv State.reset

/-- Every step keeps the invariant, from any state that has it. -/
def Obligations.StepKeepsTheInvariant : Prop := ∀ s t : State, Inv s → step s = .next t → Inv t

/-- Every command of the host keeps the invariant: every hard reset draw, every soft reset, every effect applied. -/
def Obligations.HostCommandsKeepTheInvariant : Prop :=
  ∀ (c : HostCommand) (s t : State), Inv s → command c s = .next t → Inv t

/-! ### The raster timing interpreter -/

/-- R224: each channel is two bits times 85, and the colour depends on bits 5 to 0 alone, 64 of them. -/
def Obligations.ColourOfAnOutByte : Prop :=
  ∀ o : Byte,
    (colour o).red.toNat = 85 * (o.toNat % 4) ∧
    (colour o).green.toNat = 85 * (o.toNat / 4 % 4) ∧
    (colour o).blue.toNat = 85 * (o.toNat / 16 % 4) ∧
    (∀ p : Byte, colour o = colour p ↔ o.toNat % 64 = p.toNat % 64)

/-- R225: a falling edge is a 1 to 0 transition of bit 7 or of bit 6. -/
def Obligations.FallingEdgesOfTheSyncBits : Prop :=
  ∀ prev o : Byte,
    (verticalFall prev o = true ↔ 128 ≤ prev.toNat ∧ o.toNat < 128) ∧
    (horizontalFall prev o = true ↔ prev.toNat / 64 % 2 = 1 ∧ o.toNat / 64 % 2 = 0)

/-- R236: the outputs of a cycle, with `fall` of R225, on the OUT after the CPU step. -/
def Obligations.RenderAndViolationOfACycle : Prop :=
  ∀ s : State, ∃ t, step s = .next t ∧
    (t.render = true ↔ verticalFall s.rti.prev t.regs.out = true) ∧
    (t.violation = true ↔ horizontalFall s.rti.prev t.regs.out = true ∧
      s.rti.col ≠ s.timing.h.frontPorch + s.timing.h.pulse + s.timing.h.backPorch + s.timing.h.visible)

/-- R226, R235 (order D14, hand-off D18; log 24, log 10): a vertical falling edge presents the back buffer and restarts
the frame; with a horizontal edge in the same cycle the line ends at 0 (D15), and painting there is left to
`PaintingOfACycle`. -/
def Obligations.VerticalEdgePresentsTheFrame : Prop :=
  ∀ (c : Timing) (r : Rti) (o : Byte), verticalFall r.prev o = true →
    (rtiStep c r o).rti.front = r.back ∧ (rtiStep c r o).rti.prev = o ∧
    (horizontalFall r.prev o = true → (rtiStep c r o).rti.line = 0 ∧ (rtiStep c r o).rti.col = 4) ∧
    (horizontalFall r.prev o = false →
      (rtiStep c r o).rti.line = -1 ∧ (rtiStep c r o).rti.col = r.col + 4 ∧ (rtiStep c r o).rti.cursor = 0 ∧
      (rtiStep c r o).rti.back = r.back)

/-- R227, R231 (order D14, log 24): without a vertical edge, a horizontal falling edge starts the next line, any other
cycle goes on by four columns, and the presented frame stays. -/
def Obligations.HorizontalEdgeStartsALine : Prop :=
  ∀ (c : Timing) (r : Rti) (o : Byte), verticalFall r.prev o = false →
    (rtiStep c r o).rti.front = r.front ∧ (rtiStep c r o).rti.prev = o ∧
    (horizontalFall r.prev o = true → (rtiStep c r o).rti.line = r.line + 1 ∧ (rtiStep c r o).rti.col = 4) ∧
    (horizontalFall r.prev o = false → (rtiStep c r o).rti.line = r.line ∧ (rtiStep c r o).rti.col = r.col + 4)

/-- R229, R230 (D14, D19; log 24, log 10): with the line, column and cursor after the edge actions, a cycle inside both
windows paints four pixels at the cursor, less those past the end, and moves it by four; any other cycle paints
nothing. -/
def Obligations.PaintingOfACycle : Prop :=
  ∀ (c : Timing) (r : Rti) (o : Byte),
    let v := verticalFall r.prev o
    let h := horizontalFall r.prev o
    let line : Int := (if v then -1 else r.line) + (if h then 1 else 0)
    let col := if h then 0 else r.col
    let cursor := if v then 0 else r.cursor
    let inside := ((c.v.backPorch + c.v.pulse : Nat) : Int) ≤ line ∧
      line < ((c.v.backPorch + c.v.pulse + c.v.visible : Nat) : Int) ∧
      c.h.backPorch + c.h.pulse ≤ col ∧ col < c.h.backPorch + c.h.pulse + c.h.visible
    (inside → (rtiStep c r o).rti.cursor = cursor + 4 ∧
      ∀ k : Nat, frameRead (rtiStep c r o).rti.back k =
        if cursor ≤ k ∧ k < cursor + 4 ∧ k < c.h.visible * c.v.visible then colour o else frameRead r.back k) ∧
    (¬ inside → (rtiStep c r o).rti.cursor = cursor ∧
      ∀ k : Nat, frameRead (rtiStep c r o).rti.back k = frameRead r.back k)

/-- R228: from a horizontal falling edge to the next, with any number of cycles between and vertical edges at will, the
second reports a violation exactly when the line was not of HTOTAL columns, four to the cycle. -/
def Obligations.LineLengthDecidesTheViolation : Prop :=
  ∀ (c : Timing) (r : Rti) (o₁ : Byte) (l : List Byte) (o₂ : Byte),
    horizontalFall r.prev o₁ = true →
    (∀ e ∈ edgesOf o₁ l, e.2 = false) →
    let q := (rtiRun c r (o₁ :: l)).1
    horizontalFall q.prev o₂ = true →
    ((rtiStep c q o₂).violation = true ↔ 4 * (l.length + 1) ≠ hTotal c)

/-- R239, for every timing whose line and window are whole cycles: after one vertical falling edge, scan lines of exactly
HTOTAL / 4 cycles, each begun by its only horizontal falling edge, as many as the visible window ends at, give exactly one
`render`, no violation after the first horizontal edge, and a back buffer in which every pixel is the colour of the OUT
byte of its line and column. The order inside a cycle is D14 (log 24). -/
def Obligations.OneFrameFillsTheFramebuffer : Prop :=
  ∀ (c : Timing) (r : Rti) (o : Byte) (lines : List (List Byte)),
    0 < hTotal c → 4 ∣ hTotal c → 4 ∣ windowStart c.h → 4 ∣ c.h.visible →
    (∀ l ∈ lines, l.length = hTotal c / 4) →
    lines.length = windowEnd c.v →
    edgesOf r.prev (o :: lines.flatten) = (true, false) :: lines.flatMap lineEdges →
    let q := rtiRun c r (o :: lines.flatten)
    (q.2.filter fun out => out.1).length = 1 ∧
    (∀ out ∈ q.2.drop 2, out.2 = false) ∧
    q.1.cursor = pixelCount c ∧
    ∀ k : Nat, k < pixelCount c →
      ∃ l o', lines[windowStart c.v + k / c.h.visible]? = some l ∧
        l[(windowStart c.h + k % c.h.visible) / 4]? = some o' ∧ frameRead q.1.back k = colour o'

/-! ### Reset -/

/-- R290, for every draw: PC is 0x0000 (D5, log 3), every other register and every RAM byte is the drawn one, and ROM and
the RTI are untouched (D28, log 25). A RAM byte the list does not reach reads as an unlisted one (log 7). -/
def Obligations.HardResetTakesTheDraws : Prop :=
  ∀ (w : HardResetDraw) (s : State),
    (hardReset w s).regs = ⟨0x0000, w.ir, w.d, w.ac, w.x, w.y, w.out, w.undef⟩ ∧
    (∀ k : RamAddr, ramRead (hardReset w s).ram k = (w.ram[k.toNat]?).getD 0x00) ∧
    (hardReset w s).rom = s.rom ∧ (hardReset w s).rti = s.rti ∧ (hardReset w s).timing = s.timing

/-- R293, R234 (D17, log 9; D22, log 11): a machine constructed with an image that has a ROM is hard reset, its ROM the
image and its RTI in the initial state; there is none for any other image. -/
def Obligations.ConstructionLoadsAndResets : Prop :=
  ∀ (image : List Byte) (timing : Timing) (w : HardResetDraw),
    (imageOk image = true → ∃ s, construct image timing w = some s ∧ s.rom = imageWords image ∧ s.timing = timing ∧
      s.regs = ⟨0x0000, w.ir, w.d, w.ac, w.x, w.y, w.out, w.undef⟩ ∧ s.ram = ramFill [] 0 w.ram ∧
      s.rti = ⟨0x00, -1, 0, 0, [], []⟩ ∧ (∀ k, frameRead s.rti.front k = ⟨0, 0, 0⟩)) ∧
    (imageOk image = false → construct image timing w = none)

/-- The model's own choice (log 1, log 2, log 8, log 11): `State.reset` is the machine constructed with no image and the
example timing, and hard reset with draws of zero. -/
def Obligations.ResetIsTheZeroDraw : Prop :=
  construct [] exampleTiming zeroDraw = some State.reset

/-- R291 (PC by D6, log 19; UNDEF by D26, log 25): what a soft reset writes and what it leaves. -/
def Obligations.SoftResetReflectsRomWordZero : Prop :=
  ∀ (s : State) (pc : Addr),
    (softReset s pc).regs =
      { s.regs with pc := pc, ir := (romRead s.rom 0x0000).opcode, d := (romRead s.rom 0x0000).data } ∧
    (softReset s pc).ram = s.ram ∧ (softReset s pc).rom = s.rom ∧ (softReset s pc).rti = s.rti ∧
    (softReset s).regs.pc = 0x0000

/-- R294, R295 (PC by D5, log 3): whatever a hard reset draws, ROM word 0 is what executes in the second cycle; with
`LD D, [D]>AC, $42` there (opcode byte by D1, log 12) AC is 0x42 after the second cycle. -/
def Obligations.RomWordZeroExecutesSecondAfterHardReset : Prop :=
  ∀ (w : HardResetDraw) (s : State), ∃ t u, step (hardReset w s) = .next t ∧ step t = .next u ∧
    t.regs.ir = (romRead s.rom 0x0000).opcode ∧ t.regs.d = (romRead s.rom 0x0000).data ∧
    (romRead s.rom 0x0000 = ⟨0x00, 0x42⟩ → u.regs.ac = 0x42)

/-- R302: after a soft reset, ROM word 0 executes in the first cycle, and again in the second if the PC was reset to
0x0000; if it was reset to 0x0001, word 1 executes in the second. -/
def Obligations.RomWordZeroAfterSoftReset : Prop :=
  ∀ s : State,
    (softReset s 0x0000).regs.ir = (romRead s.rom 0x0000).opcode ∧
    (∃ t, step (softReset s 0x0000) = .next t ∧
      t.regs.ir = (romRead s.rom 0x0000).opcode ∧ t.regs.d = (romRead s.rom 0x0000).data) ∧
    (∃ t, step (softReset s 0x0001) = .next t ∧
      t.regs.ir = (romRead s.rom 0x0001).opcode ∧ t.regs.d = (romRead s.rom 0x0001).data)

/-! ### The draw -/

/-- R277, R135 (D30): the host may supply any byte as the draw of a cycle, which becomes UNDEF at its end and reaches
nothing else but UNDEF's copy in the cycle's effect. That draws wait in the list `draws`, its head the coming cycle's, is
the model's own choice (DESIGN CHOICE, log 5). -/
def Obligations.UndefTakesTheSuppliedDraw : Prop :=
  (∀ (s : State) (u : Byte), s.draws = [] →
    ∃ t v, command (.supplyDraw u) s = .next t ∧ t.regs = s.regs ∧ t.ram = s.ram ∧
      step t = .next v ∧ v.regs.undef = u ∧ v.draws = []) ∧
  (∀ (s : State) (u : Byte) (l : List Byte), s.draws = u :: l →
    ∃ t, step s = .next t ∧ t.regs.undef = u ∧ t.draws = l) ∧
  (∀ (s : State) (u w : Byte) (l : List Byte), s.draws = u :: l →
    ∃ t, step s = .next t ∧
      step { s with draws := w :: l } = .next
        { t with
          regs := { t.regs with undef := w }
          effect := t.effect.map fun e => { e with regs := { e.regs with undef := w } } })
end

