-- ==== Sys2Proof/Laws/Sparse.lean ====
section
/-! SUPPORT. Sparse stores: reading after writing, the canonical form is kept, and equal reads make equal stores. -/

namespace Sys2Proof.Machine

variable {α : Type} {dflt : α} {bound : Nat}

theorem sparseRead_absent {l : List (Nat × α)} {a : Nat} (h : ∀ c ∈ l, c.1 ≠ a) :
    sparseRead dflt l a = dflt := by
  induction l with
  | nil => rfl
  | cons c l ih =>
    obtain ⟨b, v⟩ := c
    have hb : a ≠ b := fun e => h (b, v) (by simp) e.symm
    simp only [sparseRead, if_neg hb]
    exact ih fun c hc => h c (by simp [hc])

theorem sparseErase_absent (l : List (Nat × α)) (a : Nat) : ∀ c ∈ sparseErase l a, c.1 ≠ a := by
  intro c hc
  simpa using (List.mem_filter.mp hc).2

theorem sparseRead_erase (l : List (Nat × α)) (a b : Nat) :
    sparseRead dflt (sparseErase l a) b = if b = a then dflt else sparseRead dflt l b := by
  induction l with
  | nil => simp [sparseErase, sparseRead]
  | cons c l ih =>
    obtain ⟨k, v⟩ := c
    simp only [sparseErase, List.filter_cons] at ih ⊢
    by_cases hk : k = a
    · subst hk
      by_cases hb : b = k <;> simp_all [sparseRead]
    · by_cases hb : b = k <;> by_cases hba : b = a <;> simp_all [sparseRead]

theorem sparseRead_insert {l : List (Nat × α)} {a : Nat} (h : ∀ c ∈ l, c.1 ≠ a) (v : α) (b : Nat) :
    sparseRead dflt (sparseInsert l a v) b = if b = a then v else sparseRead dflt l b := by
  induction l with
  | nil => simp [sparseInsert, sparseRead]
  | cons c l ih =>
    obtain ⟨k, w⟩ := c
    have hk : k ≠ a := h (k, w) (by simp)
    have ih := ih fun c hc => h c (by simp [hc])
    by_cases hlt : a < k
    · simp [sparseInsert, hlt, sparseRead]
    · by_cases hb : b = k
      · subst hb; simp [sparseInsert, hlt, sparseRead, hk]
      · simp [sparseInsert, hlt, sparseRead, hb, ih]

/-- Read after write, of a store in any form. -/
theorem sparseRead_write [DecidableEq α] (l : List (Nat × α)) (a : Nat) (v : α) (b : Nat) :
    sparseRead dflt (sparseWrite dflt l a v) b = if b = a then v else sparseRead dflt l b := by
  unfold sparseWrite
  split
  · next h => subst h; exact sparseRead_erase l a b
  · rw [sparseRead_insert (sparseErase_absent l a), sparseRead_erase]
    split <;> rfl

theorem mem_sparseInsert {l : List (Nat × α)} {a : Nat} {v : α} {c : Nat × α} :
    c ∈ sparseInsert l a v ↔ c = (a, v) ∨ c ∈ l := by
  induction l with
  | nil => simp [sparseInsert]
  | cons e l ih =>
    obtain ⟨k, w⟩ := e
    by_cases hlt : a < k
    · simp [sparseInsert, hlt]
    · simp [sparseInsert, hlt, ih, or_left_comm]

theorem sparseInsert_rising {l : List (Nat × α)} {a : Nat} (v : α)
    (hr : l.Pairwise (fun p q => p.1 < q.1)) (h : ∀ c ∈ l, c.1 ≠ a) :
    (sparseInsert l a v).Pairwise (fun p q => p.1 < q.1) := by
  induction l with
  | nil => simp [sparseInsert]
  | cons e l ih =>
    obtain ⟨k, w⟩ := e
    have hk : k ≠ a := h (k, w) (by simp)
    have hr' := List.pairwise_cons.mp hr
    by_cases hlt : a < k
    · simp only [sparseInsert, if_pos hlt, List.pairwise_cons]
      refine ⟨fun c hc => ?_, hr'⟩
      rcases List.mem_cons.mp hc with rfl | hc
      · exact hlt
      · exact Nat.lt_trans hlt (hr'.1 c hc)
    · simp only [sparseInsert, if_neg hlt, List.pairwise_cons]
      refine ⟨fun c hc => ?_, ih hr'.2 fun c hc => h c (by simp [hc])⟩
      rcases mem_sparseInsert.mp hc with rfl | hc
      · exact show k < a by omega
      · exact hr'.1 c hc

/-- A write inside the bound keeps the canonical form. -/
theorem sparseWrite_wf [DecidableEq α] {l : List (Nat × α)} (h : sparseWf dflt bound l) {a : Nat} (ha : a < bound) (v : α) :
    sparseWf dflt bound (sparseWrite dflt l a v) := by
  have hr : (sparseErase l a).Pairwise (fun p q => p.1 < q.1) := h.1.filter _
  have hm : ∀ c ∈ sparseErase l a, c.1 < bound ∧ c.2 ≠ dflt := fun c hc =>
    h.2 c (List.mem_filter.mp hc).1
  unfold sparseWrite
  split
  · exact ⟨hr, hm⟩
  · next hv =>
    refine ⟨sparseInsert_rising v hr (sparseErase_absent l a), fun c hc => ?_⟩
    rcases mem_sparseInsert.mp hc with rfl | hc
    · exact ⟨ha, hv⟩
    · exact hm c hc

theorem sparseRead_head_lt {l : List (Nat × α)} {a : Nat} (h : ∀ c ∈ l, a < c.1) :
    sparseRead dflt l a = dflt :=
  sparseRead_absent fun c hc e => by have := h c hc; omega

/-- Canonical stores with equal reads are equal. -/
theorem sparse_ext [DecidableEq α] {l m : List (Nat × α)} (hl : sparseWf dflt bound l) (hm : sparseWf dflt bound m)
    (h : ∀ a, sparseRead dflt l a = sparseRead dflt m a) : l = m := by
  induction l generalizing m with
  | nil =>
    cases m with
    | nil => rfl
    | cons c m => exact absurd (by simpa [sparseRead] using (h c.1).symm) (hm.2 c (by simp)).2
  | cons c l ih =>
    cases m with
    | nil => exact absurd (by simpa [sparseRead] using h c.1) (hl.2 c (by simp)).2
    | cons e m =>
      obtain ⟨a, v⟩ := c
      obtain ⟨b, w⟩ := e
      have hl1 := List.pairwise_cons.mp hl.1
      have hm1 := List.pairwise_cons.mp hm.1
      have hv := (hl.2 (a, v) (by simp)).2
      have hw := (hm.2 (b, w) (by simp)).2
      rcases Nat.lt_trichotomy a b with hab | hab | hab
      · have := h a
        simp only [sparseRead, if_true, if_neg (Nat.ne_of_lt hab)] at this
        rw [sparseRead_head_lt fun c hc => Nat.lt_trans hab (hm1.1 c hc)] at this
        exact absurd this hv
      · subst hab
        have hvw : v = w := by simpa [sparseRead] using h a
        subst hvw
        rw [ih ⟨hl1.2, fun c hc => hl.2 c (by simp [hc])⟩ ⟨hm1.2, fun c hc => hm.2 c (by simp [hc])⟩ ?_]
        intro k
        by_cases hk : k = a
        · subst hk
          rw [sparseRead_head_lt hl1.1, sparseRead_head_lt hm1.1]
        · simpa [sparseRead, hk] using h k
      · have := h b
        simp only [sparseRead, if_true, if_neg (Nat.ne_of_lt hab)] at this
        rw [sparseRead_head_lt fun c hc => Nat.lt_trans hab (hl1.1 c hc)] at this
        exact absurd this.symm hw

/-- Writing back the value that stood at an index undoes a write there. -/
theorem sparseWrite_restore [DecidableEq α] {l : List (Nat × α)} (h : sparseWf dflt bound l) {a : Nat} (ha : a < bound) (v : α) :
    sparseWrite dflt (sparseWrite dflt l a v) a (sparseRead dflt l a) = l := by
  refine sparse_ext (sparseWrite_wf (sparseWrite_wf h ha v) ha _) h fun b => ?_
  rw [sparseRead_write, sparseRead_write]
  split
  · next e => rw [e]
  · rfl

end Sys2Proof.Machine
end

