-- ==== Sys2Proof/Laws/Memory.lean ====
section
/-! SUPPORT. RAM and frame buffers: read after write, and every operation keeps the canonical form. -/

namespace Sys2Proof.Machine

theorem ramAddr_lt (a : RamAddr) : a.toNat < Config.ramBytes := a.isLt

/-- Read after write. -/
theorem ramRead_write (m : Memory) (a : RamAddr) (v : Byte) (b : RamAddr) :
    ramRead (ramWrite m a v) b = if b = a then v else ramRead m b := by
  unfold ramRead ramWrite
  rw [sparseRead_write]
  simp only [BitVec.toNat_inj]

theorem ramWrite_wf {m : Memory} (h : Memory.wf m) (a : RamAddr) (v : Byte) : Memory.wf (ramWrite m a v) :=
  sparseWrite_wf h (ramAddr_lt a) v

/-- A write of the byte that stood there undoes a write. -/
theorem ramWrite_restore {m : Memory} (h : Memory.wf m) (a : RamAddr) (v : Byte) :
    ramWrite (ramWrite m a v) a (ramRead m a) = m :=
  sparseWrite_restore h (ramAddr_lt a) v

theorem ramFill_wf (l : List Byte) : ∀ (m : Memory) (a : Nat), Memory.wf m → Memory.wf (ramFill m a l) := by
  induction l with
  | nil => intro m a h; exact h
  | cons v l ih =>
    intro m a h
    refine ih _ _ ?_
    split
    · next ha => exact sparseWrite_wf h ha v
    · exact h

/-- Reading after filling: a drawn byte where the list reaches, the old byte elsewhere. -/
theorem ramFill_read (l : List Byte) : ∀ (m : Memory) (a : Nat) (b : RamAddr),
    ramRead (ramFill m a l) b =
      if a ≤ b.toNat then (l[b.toNat - a]?).getD (ramRead m b) else ramRead m b := by
  induction l with
  | nil => intro m a b; simp [ramFill]
  | cons v l ih =>
    intro m a b
    have hb := ramAddr_lt b
    rw [ramFill, ih]
    by_cases hab : a ≤ b.toNat
    · by_cases he : b.toNat = a
      · have hlt : a < Config.ramBytes := by omega
        simp [he, hlt, ramRead, sparseRead_write]
      · have h1 : a + 1 ≤ b.toNat := by omega
        have h2 : b.toNat - a = (b.toNat - (a + 1)) + 1 := by omega
        have hr : ramRead (if a < Config.ramBytes then sparseWrite unlistedByte m a v else m) b = ramRead m b := by
          split
          · simp [ramRead, sparseRead_write, he]
          · rfl
        rw [if_pos h1, if_pos hab, hr, h2, List.getElem?_cons_succ]
    · have h1 : ¬ (a + 1 ≤ b.toNat) := by omega
      have he : ¬ b.toNat = a := by omega
      rw [if_neg h1, if_neg hab]
      split
      · simp [ramRead, sparseRead_write, he]
      · rfl

theorem applyMem_wf {m : Memory} (h : Memory.wf m) (e : MemEvent) : Memory.wf (applyMem e m) := by
  cases e with
  | none => exact h
  | read a v => exact h
  | write a p v => exact ramWrite_wf h a v

theorem frameRead_write (f : Frame) (k : Nat) (p : Pixel) (j : Nat) :
    frameRead (frameWrite f k p) j = if j = k then p else frameRead f j :=
  sparseRead_write f k p j

theorem frameWrite_wf {n : Nat} {f : Frame} (h : Frame.wf n f) {k : Nat} (hk : k < n) (p : Pixel) :
    Frame.wf n (frameWrite f k p) :=
  sparseWrite_wf h hk p

theorem paintPixels_wf (n : Nat) (p : Pixel) (count : Nat) : ∀ (k : Nat) (f : Frame), Frame.wf n f →
    Frame.wf n (paintPixels n p count k f) := by
  induction count with
  | zero => intro k f h; exact h
  | succ c ih =>
    intro k f h
    refine ih _ _ ?_
    split
    · next hk => exact frameWrite_wf h hk p
    · exact h

/-- Which pixels painting sets. -/
theorem paintPixels_read (n : Nat) (p : Pixel) (count : Nat) : ∀ (k : Nat) (f : Frame) (j : Nat),
    frameRead (paintPixels n p count k f) j =
      if k ≤ j ∧ j < k + count ∧ j < n then p else frameRead f j := by
  induction count with
  | zero =>
    intro k f j
    have : ¬ (k ≤ j ∧ j < k + 0 ∧ j < n) := by omega
    simp only [paintPixels, if_neg this]
  | succ c ih =>
    intro k f j
    rw [paintPixels, ih]
    by_cases hk : k < n
    · rw [if_pos hk, frameRead_write]
      by_cases hj : j = k
      · have h1 : ¬ (k + 1 ≤ j ∧ j < k + 1 + c ∧ j < n) := by omega
        have h2 : k ≤ j ∧ j < k + (c + 1) ∧ j < n := by omega
        rw [if_neg h1, if_pos h2, if_pos hj]
      · by_cases h2 : k ≤ j ∧ j < k + (c + 1) ∧ j < n
        · rw [if_pos h2, if_pos (by omega)]
        · rw [if_neg h2, if_neg (by omega), if_neg hj]
    · rw [if_neg hk]
      by_cases h2 : k ≤ j ∧ j < k + (c + 1) ∧ j < n
      · omega
      · rw [if_neg h2, if_neg (by omega)]

theorem reset_memory_wf : Memory.wf State.reset.ram := by decide

end Sys2Proof.Machine
end

