-- ==== Sys2Proof/Laws/State.lean ====
section
/-! SUPPORT. The fields of every record the model updates: one lemma per field per update. -/

namespace Sys2Proof.Machine

/-! ### Whole states -/

@[simp] theorem idleOutputs_regs (s : State) : (idleOutputs s).regs = s.regs := rfl
@[simp] theorem idleOutputs_ram (s : State) : (idleOutputs s).ram = s.ram := rfl
@[simp] theorem idleOutputs_rom (s : State) : (idleOutputs s).rom = s.rom := rfl
@[simp] theorem idleOutputs_rti (s : State) : (idleOutputs s).rti = s.rti := rfl
@[simp] theorem idleOutputs_timing (s : State) : (idleOutputs s).timing = s.timing := rfl
@[simp] theorem idleOutputs_inputs (s : State) : (idleOutputs s).inputs = s.inputs := rfl
@[simp] theorem idleOutputs_draws (s : State) : (idleOutputs s).draws = s.draws := rfl
@[simp] theorem idleOutputs_cycle (s : State) : (idleOutputs s).cycle = s.cycle := rfl
@[simp] theorem idleOutputs_effect (s : State) : (idleOutputs s).effect = none := rfl
@[simp] theorem idleOutputs_render (s : State) : (idleOutputs s).render = false := rfl
@[simp] theorem idleOutputs_violation (s : State) : (idleOutputs s).violation = false := rfl

@[simp] theorem commitEffect_regs (e : CycleEffect) (s : State) : (commitEffect e s).regs = e.regs := rfl
@[simp] theorem commitEffect_ram (e : CycleEffect) (s : State) : (commitEffect e s).ram = applyMem e.mem s.ram := rfl
@[simp] theorem commitEffect_rom (e : CycleEffect) (s : State) : (commitEffect e s).rom = s.rom := rfl
@[simp] theorem commitEffect_rti (e : CycleEffect) (s : State) : (commitEffect e s).rti = s.rti := rfl
@[simp] theorem commitEffect_timing (e : CycleEffect) (s : State) : (commitEffect e s).timing = s.timing := rfl
@[simp] theorem commitEffect_inputs (e : CycleEffect) (s : State) : (commitEffect e s).inputs = s.inputs := rfl
@[simp] theorem commitEffect_draws (e : CycleEffect) (s : State) : (commitEffect e s).draws = s.draws := rfl
@[simp] theorem commitEffect_cycle (e : CycleEffect) (s : State) : (commitEffect e s).cycle = s.cycle := rfl
@[simp] theorem commitEffect_effect (e : CycleEffect) (s : State) : (commitEffect e s).effect = s.effect := rfl
@[simp] theorem commitEffect_render (e : CycleEffect) (s : State) : (commitEffect e s).render = s.render := rfl
@[simp] theorem commitEffect_violation (e : CycleEffect) (s : State) : (commitEffect e s).violation = s.violation := rfl

@[simp] theorem advance_regs (e : CycleEffect) (s : State) : (advance e s).regs = e.regs := rfl
@[simp] theorem advance_ram (e : CycleEffect) (s : State) : (advance e s).ram = applyMem e.mem s.ram := rfl
@[simp] theorem advance_rom (e : CycleEffect) (s : State) : (advance e s).rom = s.rom := rfl
@[simp] theorem advance_rti (e : CycleEffect) (s : State) : (advance e s).rti = s.rti := rfl
@[simp] theorem advance_timing (e : CycleEffect) (s : State) : (advance e s).timing = s.timing := rfl
@[simp] theorem advance_inputs (e : CycleEffect) (s : State) : (advance e s).inputs = s.inputs := rfl
@[simp] theorem advance_draws (e : CycleEffect) (s : State) : (advance e s).draws = s.draws := rfl
@[simp] theorem advance_cycle (e : CycleEffect) (s : State) : (advance e s).cycle = s.cycle := rfl
@[simp] theorem advance_effect (e : CycleEffect) (s : State) : (advance e s).effect = some e := rfl
@[simp] theorem advance_render (e : CycleEffect) (s : State) : (advance e s).render = s.render := rfl
@[simp] theorem advance_violation (e : CycleEffect) (s : State) : (advance e s).violation = s.violation := rfl

@[simp] theorem hostApply_regs (e : CycleEffect) (s : State) : ((hostApply e s).1).regs = e.regs := rfl
@[simp] theorem hostApply_ram (e : CycleEffect) (s : State) : ((hostApply e s).1).ram = applyMem e.mem s.ram := rfl
@[simp] theorem hostApply_rom (e : CycleEffect) (s : State) : ((hostApply e s).1).rom = s.rom := rfl
@[simp] theorem hostApply_rti (e : CycleEffect) (s : State) : ((hostApply e s).1).rti = s.rti := rfl
@[simp] theorem hostApply_timing (e : CycleEffect) (s : State) : ((hostApply e s).1).timing = s.timing := rfl
@[simp] theorem hostApply_inputs (e : CycleEffect) (s : State) : ((hostApply e s).1).inputs = s.inputs := rfl
@[simp] theorem hostApply_draws (e : CycleEffect) (s : State) : ((hostApply e s).1).draws = s.draws := rfl
@[simp] theorem hostApply_cycle (e : CycleEffect) (s : State) : ((hostApply e s).1).cycle = s.cycle := rfl
@[simp] theorem hostApply_effect (e : CycleEffect) (s : State) : ((hostApply e s).1).effect = none := rfl
@[simp] theorem hostApply_render (e : CycleEffect) (s : State) : ((hostApply e s).1).render = false := rfl
@[simp] theorem hostApply_violation (e : CycleEffect) (s : State) : ((hostApply e s).1).violation = false := rfl

@[simp] theorem endCycle_regs (s : State) : (endCycle s).regs = s.regs := rfl
@[simp] theorem endCycle_ram (s : State) : (endCycle s).ram = s.ram := rfl
@[simp] theorem endCycle_rom (s : State) : (endCycle s).rom = s.rom := rfl
@[simp] theorem endCycle_rti (s : State) : (endCycle s).rti = (rtiStep s.timing s.rti s.regs.out).rti := rfl
@[simp] theorem endCycle_timing (s : State) : (endCycle s).timing = s.timing := rfl
@[simp] theorem endCycle_inputs (s : State) : (endCycle s).inputs = s.inputs.tail := rfl
@[simp] theorem endCycle_draws (s : State) : (endCycle s).draws = s.draws.tail := rfl
@[simp] theorem endCycle_cycle (s : State) : (endCycle s).cycle = s.cycle + 1 := rfl
@[simp] theorem endCycle_effect (s : State) : (endCycle s).effect = s.effect := rfl
@[simp] theorem endCycle_render (s : State) : (endCycle s).render = (rtiStep s.timing s.rti s.regs.out).render := rfl
@[simp] theorem endCycle_violation (s : State) : (endCycle s).violation = (rtiStep s.timing s.rti s.regs.out).violation := rfl

@[simp] theorem hardReset_regs (w : HardResetDraw) (s : State) : (hardReset w s).regs = ⟨Config.hardResetPc, w.ir, w.d, w.ac, w.x, w.y, w.out, w.undef⟩ := rfl
@[simp] theorem hardReset_ram (w : HardResetDraw) (s : State) : (hardReset w s).ram = ramFill [] 0 w.ram := rfl
@[simp] theorem hardReset_rom (w : HardResetDraw) (s : State) : (hardReset w s).rom = s.rom := rfl
@[simp] theorem hardReset_rti (w : HardResetDraw) (s : State) : (hardReset w s).rti = s.rti := rfl
@[simp] theorem hardReset_timing (w : HardResetDraw) (s : State) : (hardReset w s).timing = s.timing := rfl
@[simp] theorem hardReset_inputs (w : HardResetDraw) (s : State) : (hardReset w s).inputs = s.inputs := rfl
@[simp] theorem hardReset_draws (w : HardResetDraw) (s : State) : (hardReset w s).draws = s.draws := rfl
@[simp] theorem hardReset_cycle (w : HardResetDraw) (s : State) : (hardReset w s).cycle = s.cycle := rfl
@[simp] theorem hardReset_effect (w : HardResetDraw) (s : State) : (hardReset w s).effect = none := rfl
@[simp] theorem hardReset_render (w : HardResetDraw) (s : State) : (hardReset w s).render = false := rfl
@[simp] theorem hardReset_violation (w : HardResetDraw) (s : State) : (hardReset w s).violation = false := rfl

@[simp] theorem softReset_regs (s : State) (p : Addr) : (softReset s p).regs = 
    ⟨p, (romRead s.rom 0x0000).opcode, (romRead s.rom 0x0000).data, s.regs.ac, s.regs.x, s.regs.y, s.regs.out,
      s.regs.undef⟩ := rfl
@[simp] theorem softReset_ram (s : State) (p : Addr) : (softReset s p).ram = s.ram := rfl
@[simp] theorem softReset_rom (s : State) (p : Addr) : (softReset s p).rom = s.rom := rfl
@[simp] theorem softReset_rti (s : State) (p : Addr) : (softReset s p).rti = s.rti := rfl
@[simp] theorem softReset_timing (s : State) (p : Addr) : (softReset s p).timing = s.timing := rfl
@[simp] theorem softReset_inputs (s : State) (p : Addr) : (softReset s p).inputs = s.inputs := rfl
@[simp] theorem softReset_draws (s : State) (p : Addr) : (softReset s p).draws = s.draws := rfl
@[simp] theorem softReset_cycle (s : State) (p : Addr) : (softReset s p).cycle = s.cycle := rfl
@[simp] theorem softReset_effect (s : State) (p : Addr) : (softReset s p).effect = none := rfl
@[simp] theorem softReset_render (s : State) (p : Addr) : (softReset s p).render = false := rfl
@[simp] theorem softReset_violation (s : State) (p : Addr) : (softReset s p).violation = false := rfl

@[simp] theorem supplyInput_regs (b : Byte) (s : State) : (supplyInput b s).regs = s.regs := rfl
@[simp] theorem supplyInput_ram (b : Byte) (s : State) : (supplyInput b s).ram = s.ram := rfl
@[simp] theorem supplyInput_rom (b : Byte) (s : State) : (supplyInput b s).rom = s.rom := rfl
@[simp] theorem supplyInput_rti (b : Byte) (s : State) : (supplyInput b s).rti = s.rti := rfl
@[simp] theorem supplyInput_timing (b : Byte) (s : State) : (supplyInput b s).timing = s.timing := rfl
@[simp] theorem supplyInput_inputs (b : Byte) (s : State) : (supplyInput b s).inputs = s.inputs ++ [b] := rfl
@[simp] theorem supplyInput_draws (b : Byte) (s : State) : (supplyInput b s).draws = s.draws := rfl
@[simp] theorem supplyInput_cycle (b : Byte) (s : State) : (supplyInput b s).cycle = s.cycle := rfl
@[simp] theorem supplyInput_effect (b : Byte) (s : State) : (supplyInput b s).effect = none := rfl
@[simp] theorem supplyInput_render (b : Byte) (s : State) : (supplyInput b s).render = false := rfl
@[simp] theorem supplyInput_violation (b : Byte) (s : State) : (supplyInput b s).violation = false := rfl

@[simp] theorem supplyDraw_regs (u : Byte) (s : State) : (supplyDraw u s).regs = s.regs := rfl
@[simp] theorem supplyDraw_ram (u : Byte) (s : State) : (supplyDraw u s).ram = s.ram := rfl
@[simp] theorem supplyDraw_rom (u : Byte) (s : State) : (supplyDraw u s).rom = s.rom := rfl
@[simp] theorem supplyDraw_rti (u : Byte) (s : State) : (supplyDraw u s).rti = s.rti := rfl
@[simp] theorem supplyDraw_timing (u : Byte) (s : State) : (supplyDraw u s).timing = s.timing := rfl
@[simp] theorem supplyDraw_inputs (u : Byte) (s : State) : (supplyDraw u s).inputs = s.inputs := rfl
@[simp] theorem supplyDraw_draws (u : Byte) (s : State) : (supplyDraw u s).draws = s.draws ++ [u] := rfl
@[simp] theorem supplyDraw_cycle (u : Byte) (s : State) : (supplyDraw u s).cycle = s.cycle := rfl
@[simp] theorem supplyDraw_effect (u : Byte) (s : State) : (supplyDraw u s).effect = none := rfl
@[simp] theorem supplyDraw_render (u : Byte) (s : State) : (supplyDraw u s).render = false := rfl
@[simp] theorem supplyDraw_violation (u : Byte) (s : State) : (supplyDraw u s).violation = false := rfl

@[simp] theorem withFetchWord_regs (s : State) (n w : Nat) : (s.withFetchWord n w).regs = 
    { s.regs with ir := BitVec.ofNat 8 (w % 2 ^ n / 256), d := BitVec.ofNat 8 (w % 2 ^ n) } := rfl
@[simp] theorem withFetchWord_ram (s : State) (n w : Nat) : (s.withFetchWord n w).ram = s.ram := rfl
@[simp] theorem withFetchWord_rom (s : State) (n w : Nat) : (s.withFetchWord n w).rom = s.rom := rfl
@[simp] theorem withFetchWord_rti (s : State) (n w : Nat) : (s.withFetchWord n w).rti = s.rti := rfl
@[simp] theorem withFetchWord_timing (s : State) (n w : Nat) : (s.withFetchWord n w).timing = s.timing := rfl
@[simp] theorem withFetchWord_inputs (s : State) (n w : Nat) : (s.withFetchWord n w).inputs = s.inputs := rfl
@[simp] theorem withFetchWord_draws (s : State) (n w : Nat) : (s.withFetchWord n w).draws = s.draws := rfl
@[simp] theorem withFetchWord_cycle (s : State) (n w : Nat) : (s.withFetchWord n w).cycle = s.cycle := rfl
@[simp] theorem withFetchWord_effect (s : State) (n w : Nat) : (s.withFetchWord n w).effect = s.effect := rfl
@[simp] theorem withFetchWord_render (s : State) (n w : Nat) : (s.withFetchWord n w).render = s.render := rfl
@[simp] theorem withFetchWord_violation (s : State) (n w : Nat) : (s.withFetchWord n w).violation = s.violation := rfl

/-! ### Register files -/

@[simp] theorem latch_pc (s : State) (p : Addr) (r : Regs) : (latch s p r).pc = p := rfl
@[simp] theorem latch_ir (s : State) (p : Addr) (r : Regs) : (latch s p r).ir = (romRead s.rom s.regs.pc).opcode := rfl
@[simp] theorem latch_d (s : State) (p : Addr) (r : Regs) : (latch s p r).d = (romRead s.rom s.regs.pc).data := rfl
@[simp] theorem latch_ac (s : State) (p : Addr) (r : Regs) : (latch s p r).ac = r.ac := rfl
@[simp] theorem latch_x (s : State) (p : Addr) (r : Regs) : (latch s p r).x = r.x := rfl
@[simp] theorem latch_y (s : State) (p : Addr) (r : Regs) : (latch s p r).y = r.y := rfl
@[simp] theorem latch_out (s : State) (p : Addr) (r : Regs) : (latch s p r).out = r.out := rfl
@[simp] theorem latch_undef (s : State) (p : Addr) (r : Regs) : (latch s p r).undef = entropyDraw s := rfl

@[simp] theorem writeBack_pc (t : Dest) (v : Byte) (i : Bool) (r : Regs) : (writeBack t v i r).pc = r.pc := by
  cases t <;> cases i <;> rfl
@[simp] theorem writeBack_ir (t : Dest) (v : Byte) (i : Bool) (r : Regs) : (writeBack t v i r).ir = r.ir := by
  cases t <;> cases i <;> rfl
@[simp] theorem writeBack_d (t : Dest) (v : Byte) (i : Bool) (r : Regs) : (writeBack t v i r).d = r.d := by
  cases t <;> cases i <;> rfl
@[simp] theorem writeBack_undef (t : Dest) (v : Byte) (i : Bool) (r : Regs) : (writeBack t v i r).undef = r.undef := by
  cases t <;> cases i <;> rfl

theorem writeBack_ac (t : Dest) (v : Byte) (i : Bool) (r : Regs) :
    (writeBack t v i r).ac = if t = .ac then v else r.ac := by
  cases t <;> cases i <;> rfl

theorem writeBack_y (t : Dest) (v : Byte) (i : Bool) (r : Regs) :
    (writeBack t v i r).y = if t = .y then v else r.y := by
  cases t <;> cases i <;> rfl

theorem writeBack_out (t : Dest) (v : Byte) (i : Bool) (r : Regs) :
    (writeBack t v i r).out = if t = .out then v else r.out := by
  cases t <;> cases i <;> rfl

theorem writeBack_x (t : Dest) (v : Byte) (i : Bool) (r : Regs) :
    (writeBack t v i r).x = if i then r.x + 1 else if t = .x then v else r.x := by
  cases t <;> cases i <;> rfl

/-! ### Effects -/

@[simp] theorem invertEffect_regs (e : CycleEffect) (r : Regs) : (invertEffect e r).regs = r := rfl
@[simp] theorem invertEffect_queued (e : CycleEffect) (r : Regs) : (invertEffect e r).queued = e.queued := rfl
@[simp] theorem invertEffect_mem (e : CycleEffect) (r : Regs) : (invertEffect e r).mem = invertMem e.mem := rfl
@[simp] theorem applyEffect_state (e : CycleEffect) (s : State) : (applyEffect e s).1 = commitEffect e s := rfl
@[simp] theorem applyEffect_inverse (e : CycleEffect) (s : State) : (applyEffect e s).2 = invertEffect e s.regs := rfl
@[simp] theorem hostApply_inverse (e : CycleEffect) (s : State) : (hostApply e s).2 = invertEffect e s.regs := rfl

/-! ### The raster timing interpreter -/

@[simp] theorem beginFrame_prev (r : Rti) : (beginFrame r).prev = r.prev := rfl
@[simp] theorem beginFrame_line (r : Rti) : (beginFrame r).line = -1 := rfl
@[simp] theorem beginFrame_col (r : Rti) : (beginFrame r).col = r.col := rfl
@[simp] theorem beginFrame_cursor (r : Rti) : (beginFrame r).cursor = 0 := rfl
@[simp] theorem beginFrame_back (r : Rti) : (beginFrame r).back = r.back := rfl
@[simp] theorem beginFrame_front (r : Rti) : (beginFrame r).front = r.back := rfl

@[simp] theorem beginLine_prev (r : Rti) : (beginLine r).prev = r.prev := rfl
@[simp] theorem beginLine_line (r : Rti) : (beginLine r).line = r.line + 1 := rfl
@[simp] theorem beginLine_col (r : Rti) : (beginLine r).col = 0 := rfl
@[simp] theorem beginLine_cursor (r : Rti) : (beginLine r).cursor = r.cursor := rfl
@[simp] theorem beginLine_back (r : Rti) : (beginLine r).back = r.back := rfl
@[simp] theorem beginLine_front (r : Rti) : (beginLine r).front = r.front := rfl

@[simp] theorem paint_prev (t : Timing) (o : Byte) (r : Rti) : (paint t o r).prev = r.prev := rfl
@[simp] theorem paint_line (t : Timing) (o : Byte) (r : Rti) : (paint t o r).line = r.line := rfl
@[simp] theorem paint_col (t : Timing) (o : Byte) (r : Rti) : (paint t o r).col = r.col := rfl
@[simp] theorem paint_cursor (t : Timing) (o : Byte) (r : Rti) : (paint t o r).cursor = r.cursor + Config.columnsPerCycle := rfl
@[simp] theorem paint_back (t : Timing) (o : Byte) (r : Rti) : (paint t o r).back = paintPixels (pixelCount t) (colour o) Config.columnsPerCycle r.cursor r.back := rfl
@[simp] theorem paint_front (t : Timing) (o : Byte) (r : Rti) : (paint t o r).front = r.front := rfl

end Sys2Proof.Machine
end

