-- ==== Sys2Proof/Laws/Ops.lean ====
section
/-! SUPPORT. For each shared operation, once, what it can do: the four shapes of cycle, the bus, the latch, the RTI
step. The provers cite these instead of unfolding the operations. -/

namespace Sys2Proof.Machine

/-! ### Going through a cycle -/

/-- A next state of `step` is the end of the cycle of a next state of `exec`. -/
theorem step_next {s u : State} (h : step s = .next u) :
    ∃ t, exec (decodeOpcode s.regs.ir) s = .next t ∧ u = endCycle t := by
  unfold step at h
  split at h
  · next t ht => exact ⟨t, ht, by cases h; rfl⟩
  · cases h
  · cases h

/-- What the four shapes of cycle share: the PC before as `queued`, (IR, D) from the word fetched, UNDEF from the
draw. -/
structure Fetches (e : CycleEffect) (s : State) : Prop where
  queued : e.queued = s.regs.pc
  ir     : e.regs.ir = (romRead s.rom s.regs.pc).opcode
  d      : e.regs.d = (romRead s.rom s.regs.pc).data
  undef  : e.regs.undef = entropyDraw s

theorem aluEffect_fetches (op : AluOp) (m : Mode) (b : Bus) (s : State) : Fetches (aluEffect op m b s) s :=
  ⟨rfl, rfl, rfl, rfl⟩

theorem storeEffect_fetches (m : Mode) (b : Bus) (s : State) : Fetches (storeEffect m b s) s :=
  ⟨rfl, rfl, rfl, rfl⟩

theorem farJumpEffect_fetches (b : Bus) (s : State) : Fetches (farJumpEffect b s) s := ⟨rfl, rfl, rfl, rfl⟩

theorem branchEffect_fetches (k : BitVec 3) (b : Bus) (s : State) : Fetches (branchEffect k b s) s :=
  ⟨rfl, rfl, rfl, rfl⟩

/-! ### What the host supplies to a cycle -/

/-- The draw of the coming cycle is the first the host supplied. -/
theorem entropyDraw_supplied {s : State} {u : Byte} {l : List Byte} (h : s.draws = u :: l) : entropyDraw s = u := by
  simp [entropyDraw, h]

/-- The input byte of the coming cycle is the first the host supplied. -/
theorem inputByte_supplied {s : State} {b : Byte} {l : List Byte} (h : s.inputs = b :: l) : inputByte s = b := by
  simp [inputByte, h]

/-! ### Memory events -/

/-- Only a read or nothing can be the event of an instruction that is no store. -/
theorem busEvent_cases (b : Bus) (a : RamAddr) (s : State) :
    (b = .ram ∧ busEvent b a s = .read a (ramRead s.ram a)) ∨ (b ≠ .ram ∧ busEvent b a s = .none) := by
  cases b <;> simp [busEvent]

theorem applyMem_busEvent (b : Bus) (a : RamAddr) (s : State) (m : Memory) : applyMem (busEvent b a s) m = m := by
  cases b <;> rfl

theorem aluEffect_keeps_ram (op : AluOp) (m : Mode) (b : Bus) (s : State) :
    applyMem (aluEffect op m b s).mem s.ram = s.ram :=
  applyMem_busEvent b _ s s.ram

theorem farJumpEffect_keeps_ram (b : Bus) (s : State) : applyMem (farJumpEffect b s).mem s.ram = s.ram :=
  applyMem_busEvent b _ s s.ram

theorem branchEffect_keeps_ram (k : BitVec 3) (b : Bus) (s : State) :
    applyMem (branchEffect k b s).mem s.ram = s.ram :=
  applyMem_busEvent b _ s s.ram

theorem storeEffect_ram (m : Mode) (b : Bus) (s : State) :
    applyMem (storeEffect m b s).mem s.ram = ramWrite s.ram (operandAddress m s.regs) (storeValue b s) := rfl

theorem invertMem_involutive (e : MemEvent) : invertMem (invertMem e) = e := by cases e <;> rfl

/-! ### Registers after a cycle -/

/-- The PC of an instruction that is no jump. -/
theorem aluEffect_pc (op : AluOp) (m : Mode) (b : Bus) (s : State) : (aluEffect op m b s).regs.pc = s.regs.pc + 1 := rfl

theorem storeEffect_pc (m : Mode) (b : Bus) (s : State) : (storeEffect m b s).regs.pc = s.regs.pc + 1 := rfl

/-- A jump leaves AC, X, Y and OUT alone. -/
theorem farJumpEffect_regs (b : Bus) (s : State) :
    (farJumpEffect b s).regs.ac = s.regs.ac ∧ (farJumpEffect b s).regs.x = s.regs.x ∧
      (farJumpEffect b s).regs.y = s.regs.y ∧ (farJumpEffect b s).regs.out = s.regs.out :=
  ⟨rfl, rfl, rfl, rfl⟩

theorem branchEffect_regs (k : BitVec 3) (b : Bus) (s : State) :
    (branchEffect k b s).regs.ac = s.regs.ac ∧ (branchEffect k b s).regs.x = s.regs.x ∧
      (branchEffect k b s).regs.y = s.regs.y ∧ (branchEffect k b s).regs.out = s.regs.out :=
  ⟨rfl, rfl, rfl, rfl⟩

/-- A store changes neither AC nor OUT. -/
theorem maskDest_cases (d : Dest) : maskDest d ≠ .ac ∧ maskDest d ≠ .out := by
  cases d <;> decide

/-! ### The raster timing interpreter -/

theorem rtiStep_prev (t : Timing) (r : Rti) (o : Byte) : (rtiStep t r o).rti.prev = o := rfl

theorem rtiStep_render (t : Timing) (r : Rti) (o : Byte) : (rtiStep t r o).render = verticalFall r.prev o := rfl

theorem rtiStep_violation (t : Timing) (r : Rti) (o : Byte) :
    (rtiStep t r o).violation = (horizontalFall r.prev o && r.col != hTotal t) := rfl

theorem edgeActions_prev (o : Byte) (r : Rti) : (edgeActions o r).prev = r.prev := by
  unfold edgeActions
  cases verticalFall r.prev o <;> cases horizontalFall r.prev o <;> rfl

theorem edgeActions_back (o : Byte) (r : Rti) : (edgeActions o r).back = r.back := by
  unfold edgeActions
  cases verticalFall r.prev o <;> cases horizontalFall r.prev o <;> rfl

theorem edgeActions_front (o : Byte) (r : Rti) :
    (edgeActions o r).front = if verticalFall r.prev o then r.back else r.front := by
  unfold edgeActions
  cases verticalFall r.prev o <;> cases horizontalFall r.prev o <;> rfl

theorem edgeActions_cursor (o : Byte) (r : Rti) :
    (edgeActions o r).cursor = if verticalFall r.prev o then 0 else r.cursor := by
  unfold edgeActions
  cases verticalFall r.prev o <;> cases horizontalFall r.prev o <;> rfl

theorem edgeActions_col (o : Byte) (r : Rti) :
    (edgeActions o r).col = if horizontalFall r.prev o then 0 else r.col := by
  unfold edgeActions
  cases verticalFall r.prev o <;> cases horizontalFall r.prev o <;> rfl

theorem edgeActions_line (o : Byte) (r : Rti) :
    (edgeActions o r).line =
      (if verticalFall r.prev o then -1 else r.line) + (if horizontalFall r.prev o then 1 else 0) := by
  unfold edgeActions
  cases verticalFall r.prev o <;> cases horizontalFall r.prev o <;> simp

theorem rtiStep_line (t : Timing) (r : Rti) (o : Byte) : (rtiStep t r o).rti.line = (edgeActions o r).line := by
  cases h : visibleAt t (edgeActions o r).line (edgeActions o r).col <;> simp [rtiStep, h, paint, Config.columnsPerCycle]

theorem rtiStep_col (t : Timing) (r : Rti) (o : Byte) : (rtiStep t r o).rti.col = (edgeActions o r).col + 4 := by
  cases h : visibleAt t (edgeActions o r).line (edgeActions o r).col <;> simp [rtiStep, h, paint, Config.columnsPerCycle]

theorem rtiStep_front (t : Timing) (r : Rti) (o : Byte) : (rtiStep t r o).rti.front = (edgeActions o r).front := by
  cases h : visibleAt t (edgeActions o r).line (edgeActions o r).col <;> simp [rtiStep, h, paint, Config.columnsPerCycle]

/-- Painting, or not: the whole of what a cycle does to the back buffer and the cursor. -/
theorem rtiStep_paint (t : Timing) (r : Rti) (o : Byte) :
    let e := edgeActions o r
    (visibleAt t e.line e.col = true →
      (rtiStep t r o).rti.cursor = e.cursor + 4 ∧
        (rtiStep t r o).rti.back = paintPixels (pixelCount t) (colour o) 4 e.cursor e.back) ∧
    (visibleAt t e.line e.col = false →
      (rtiStep t r o).rti.cursor = e.cursor ∧ (rtiStep t r o).rti.back = e.back) := by
  refine ⟨fun h => ?_, fun h => ?_⟩ <;> simp only [rtiStep, h] <;> exact ⟨rfl, rfl⟩

end Sys2Proof.Machine
end

