-- ==== Sys2Proof/Laws/Exec.lean ====
section
/-! SUPPORT. `exec` by the fields of an instruction: the 256 arms as four shapes of cycle, for the constructor functions
of Decode.lean and for what an opcode byte decodes to. -/

namespace Sys2Proof.Machine

theorem exec_ldInstr (m : Mode) (b : Bus) (s : State) :
    exec (ldInstr m b) s = .next (advance (aluEffect .load m b s) s) := by
  cases m <;> cases b <;> rfl

theorem exec_andInstr (m : Mode) (b : Bus) (s : State) :
    exec (andInstr m b) s = .next (advance (aluEffect .and m b s) s) := by
  cases m <;> cases b <;> rfl

theorem exec_orInstr (m : Mode) (b : Bus) (s : State) :
    exec (orInstr m b) s = .next (advance (aluEffect .or m b s) s) := by
  cases m <;> cases b <;> rfl

theorem exec_xorInstr (m : Mode) (b : Bus) (s : State) :
    exec (xorInstr m b) s = .next (advance (aluEffect .xor m b s) s) := by
  cases m <;> cases b <;> rfl

theorem exec_addInstr (m : Mode) (b : Bus) (s : State) :
    exec (addInstr m b) s = .next (advance (aluEffect .add m b s) s) := by
  cases m <;> cases b <;> rfl

theorem exec_subInstr (m : Mode) (b : Bus) (s : State) :
    exec (subInstr m b) s = .next (advance (aluEffect .sub m b s) s) := by
  cases m <;> cases b <;> rfl

theorem exec_stInstr (m : Mode) (b : Bus) (s : State) :
    exec (stInstr m b) s = .next (advance (storeEffect m b s) s) := by
  cases m <;> cases b <;> rfl

/-- The cycle of a jump by its condition: the far jump, or a branch with its mask. -/
def jumpEffect (c : Cond) (b : Bus) (s : State) : CycleEffect :=
  match c with
  | .jmp => farJumpEffect b s
  | .bgt => branchEffect 0b001 b s
  | .blt => branchEffect 0b010 b s
  | .bne => branchEffect 0b011 b s
  | .beq => branchEffect 0b100 b s
  | .bge => branchEffect 0b101 b s
  | .ble => branchEffect 0b110 b s
  | .bra => branchEffect 0b111 b s

theorem exec_jumpInstr (c : Cond) (b : Bus) (s : State) :
    exec (jumpInstr c b) s = .next (advance (jumpEffect c b s) s) := by
  cases c <;> cases b <;> rfl

/-- Any condition but the far jump is a branch with that condition's mask. -/
theorem jumpEffect_branch {c : Cond} (h : c ≠ .jmp) (b : Bus) (s : State) :
    jumpEffect c b s = branchEffect (condCode c) b s := by
  cases c <;> first | rfl | exact absurd rfl h

/-- The cycle of an instruction by its fields. -/
def fieldsEffect (op : Operation) (mode : BitVec 3) (b : Bus) (s : State) : CycleEffect :=
  match op with
  | .load => aluEffect .load (modeOf mode) b s
  | .and => aluEffect .and (modeOf mode) b s
  | .or => aluEffect .or (modeOf mode) b s
  | .xor => aluEffect .xor (modeOf mode) b s
  | .add => aluEffect .add (modeOf mode) b s
  | .sub => aluEffect .sub (modeOf mode) b s
  | .store => storeEffect (modeOf mode) b s
  | .jump => jumpEffect (condOf mode) b s

/-- The effect of the cycle that starts in `s`. -/
def cycleEffect (s : State) : CycleEffect :=
  fieldsEffect (operationOf (operationBits s.regs.ir)) (modeBits s.regs.ir) (busOf (busBits s.regs.ir)) s

theorem exec_instrOfFields (op : Operation) (mode : BitVec 3) (b : Bus) (s : State) :
    exec (instrOfFields op mode b) s = .next (advance (fieldsEffect op mode b s) s) := by
  cases op
  · exact exec_ldInstr _ _ _
  · exact exec_andInstr _ _ _
  · exact exec_orInstr _ _ _
  · exact exec_xorInstr _ _ _
  · exact exec_addInstr _ _ _
  · exact exec_subInstr _ _ _
  · exact exec_stInstr _ _ _
  · exact exec_jumpInstr _ _ _

/-- A step, in one equation: the cycle's effect is applied, then the cycle ends. -/
theorem step_eq (s : State) : step s = .next (endCycle (advance (cycleEffect s) s)) := by
  unfold step decodeOpcode
  rw [exec_instrOfFields]
  rfl

/-- Every shape of cycle fetches. -/
theorem fieldsEffect_fetches (op : Operation) (mode : BitVec 3) (b : Bus) (s : State) :
    Fetches (fieldsEffect op mode b s) s := by
  cases op
  case jump => cases h : condOf mode <;> simp only [fieldsEffect, jumpEffect, h] <;> exact ⟨rfl, rfl, rfl, rfl⟩
  all_goals exact ⟨rfl, rfl, rfl, rfl⟩

theorem cycleEffect_fetches (s : State) : Fetches (cycleEffect s) s := fieldsEffect_fetches _ _ _ _

end Sys2Proof.Machine
end

