-- ==== Sys2Proof/Laws/PerInstr.lean ====
section
/-! SUPPORT. Laws stated of every instruction, one lemma per constructor. -/

namespace Sys2Proof.Laws

/-- The opcode byte of an instruction, read off the opcode matrix of 30_encoding.md R94 (not computed from the
fields, as the encoder does by R92). -/
def matrixOpcode (i : Instr) : Byte :=
  match i with
  | .ldD_dToAc => 0x00
  | .ldRam_dToAc => 0x01
  | .ldAc_dToAc => 0x02
  | .ldIn_dToAc => 0x03
  | .ldD_xToAc => 0x04
  | .ldRam_xToAc => 0x05
  | .ldAc_xToAc => 0x06
  | .ldIn_xToAc => 0x07
  | .ldD_ydToAc => 0x08
  | .ldRam_ydToAc => 0x09
  | .ldAc_ydToAc => 0x0A
  | .ldIn_ydToAc => 0x0B
  | .ldD_yxToAc => 0x0C
  | .ldRam_yxToAc => 0x0D
  | .ldAc_yxToAc => 0x0E
  | .ldIn_yxToAc => 0x0F
  | .ldD_dToX => 0x10
  | .ldRam_dToX => 0x11
  | .ldAc_dToX => 0x12
  | .ldIn_dToX => 0x13
  | .ldD_dToY => 0x14
  | .ldRam_dToY => 0x15
  | .ldAc_dToY => 0x16
  | .ldIn_dToY => 0x17
  | .ldD_dToOut => 0x18
  | .ldRam_dToOut => 0x19
  | .ldAc_dToOut => 0x1A
  | .ldIn_dToOut => 0x1B
  | .ldD_yxIncToOut => 0x1C
  | .ldRam_yxIncToOut => 0x1D
  | .ldAc_yxIncToOut => 0x1E
  | .ldIn_yxIncToOut => 0x1F
  | .andD_dToAc => 0x20
  | .andRam_dToAc => 0x21
  | .andAc_dToAc => 0x22
  | .andIn_dToAc => 0x23
  | .andD_xToAc => 0x24
  | .andRam_xToAc => 0x25
  | .andAc_xToAc => 0x26
  | .andIn_xToAc => 0x27
  | .andD_ydToAc => 0x28
  | .andRam_ydToAc => 0x29
  | .andAc_ydToAc => 0x2A
  | .andIn_ydToAc => 0x2B
  | .andD_yxToAc => 0x2C
  | .andRam_yxToAc => 0x2D
  | .andAc_yxToAc => 0x2E
  | .andIn_yxToAc => 0x2F
  | .andD_dToX => 0x30
  | .andRam_dToX => 0x31
  | .andAc_dToX => 0x32
  | .andIn_dToX => 0x33
  | .andD_dToY => 0x34
  | .andRam_dToY => 0x35
  | .andAc_dToY => 0x36
  | .andIn_dToY => 0x37
  | .andD_dToOut => 0x38
  | .andRam_dToOut => 0x39
  | .andAc_dToOut => 0x3A
  | .andIn_dToOut => 0x3B
  | .andD_yxIncToOut => 0x3C
  | .andRam_yxIncToOut => 0x3D
  | .andAc_yxIncToOut => 0x3E
  | .andIn_yxIncToOut => 0x3F
  | .orD_dToAc => 0x40
  | .orRam_dToAc => 0x41
  | .orAc_dToAc => 0x42
  | .orIn_dToAc => 0x43
  | .orD_xToAc => 0x44
  | .orRam_xToAc => 0x45
  | .orAc_xToAc => 0x46
  | .orIn_xToAc => 0x47
  | .orD_ydToAc => 0x48
  | .orRam_ydToAc => 0x49
  | .orAc_ydToAc => 0x4A
  | .orIn_ydToAc => 0x4B
  | .orD_yxToAc => 0x4C
  | .orRam_yxToAc => 0x4D
  | .orAc_yxToAc => 0x4E
  | .orIn_yxToAc => 0x4F
  | .orD_dToX => 0x50
  | .orRam_dToX => 0x51
  | .orAc_dToX => 0x52
  | .orIn_dToX => 0x53
  | .orD_dToY => 0x54
  | .orRam_dToY => 0x55
  | .orAc_dToY => 0x56
  | .orIn_dToY => 0x57
  | .orD_dToOut => 0x58
  | .orRam_dToOut => 0x59
  | .orAc_dToOut => 0x5A
  | .orIn_dToOut => 0x5B
  | .orD_yxIncToOut => 0x5C
  | .orRam_yxIncToOut => 0x5D
  | .orAc_yxIncToOut => 0x5E
  | .orIn_yxIncToOut => 0x5F
  | .xorD_dToAc => 0x60
  | .xorRam_dToAc => 0x61
  | .xorAc_dToAc => 0x62
  | .xorIn_dToAc => 0x63
  | .xorD_xToAc => 0x64
  | .xorRam_xToAc => 0x65
  | .xorAc_xToAc => 0x66
  | .xorIn_xToAc => 0x67
  | .xorD_ydToAc => 0x68
  | .xorRam_ydToAc => 0x69
  | .xorAc_ydToAc => 0x6A
  | .xorIn_ydToAc => 0x6B
  | .xorD_yxToAc => 0x6C
  | .xorRam_yxToAc => 0x6D
  | .xorAc_yxToAc => 0x6E
  | .xorIn_yxToAc => 0x6F
  | .xorD_dToX => 0x70
  | .xorRam_dToX => 0x71
  | .xorAc_dToX => 0x72
  | .xorIn_dToX => 0x73
  | .xorD_dToY => 0x74
  | .xorRam_dToY => 0x75
  | .xorAc_dToY => 0x76
  | .xorIn_dToY => 0x77
  | .xorD_dToOut => 0x78
  | .xorRam_dToOut => 0x79
  | .xorAc_dToOut => 0x7A
  | .xorIn_dToOut => 0x7B
  | .xorD_yxIncToOut => 0x7C
  | .xorRam_yxIncToOut => 0x7D
  | .xorAc_yxIncToOut => 0x7E
  | .xorIn_yxIncToOut => 0x7F
  | .addD_dToAc => 0x80
  | .addRam_dToAc => 0x81
  | .addAc_dToAc => 0x82
  | .addIn_dToAc => 0x83
  | .addD_xToAc => 0x84
  | .addRam_xToAc => 0x85
  | .addAc_xToAc => 0x86
  | .addIn_xToAc => 0x87
  | .addD_ydToAc => 0x88
  | .addRam_ydToAc => 0x89
  | .addAc_ydToAc => 0x8A
  | .addIn_ydToAc => 0x8B
  | .addD_yxToAc => 0x8C
  | .addRam_yxToAc => 0x8D
  | .addAc_yxToAc => 0x8E
  | .addIn_yxToAc => 0x8F
  | .addD_dToX => 0x90
  | .addRam_dToX => 0x91
  | .addAc_dToX => 0x92
  | .addIn_dToX => 0x93
  | .addD_dToY => 0x94
  | .addRam_dToY => 0x95
  | .addAc_dToY => 0x96
  | .addIn_dToY => 0x97
  | .addD_dToOut => 0x98
  | .addRam_dToOut => 0x99
  | .addAc_dToOut => 0x9A
  | .addIn_dToOut => 0x9B
  | .addD_yxIncToOut => 0x9C
  | .addRam_yxIncToOut => 0x9D
  | .addAc_yxIncToOut => 0x9E
  | .addIn_yxIncToOut => 0x9F
  | .subD_dToAc => 0xA0
  | .subRam_dToAc => 0xA1
  | .subAc_dToAc => 0xA2
  | .subIn_dToAc => 0xA3
  | .subD_xToAc => 0xA4
  | .subRam_xToAc => 0xA5
  | .subAc_xToAc => 0xA6
  | .subIn_xToAc => 0xA7
  | .subD_ydToAc => 0xA8
  | .subRam_ydToAc => 0xA9
  | .subAc_ydToAc => 0xAA
  | .subIn_ydToAc => 0xAB
  | .subD_yxToAc => 0xAC
  | .subRam_yxToAc => 0xAD
  | .subAc_yxToAc => 0xAE
  | .subIn_yxToAc => 0xAF
  | .subD_dToX => 0xB0
  | .subRam_dToX => 0xB1
  | .subAc_dToX => 0xB2
  | .subIn_dToX => 0xB3
  | .subD_dToY => 0xB4
  | .subRam_dToY => 0xB5
  | .subAc_dToY => 0xB6
  | .subIn_dToY => 0xB7
  | .subD_dToOut => 0xB8
  | .subRam_dToOut => 0xB9
  | .subAc_dToOut => 0xBA
  | .subIn_dToOut => 0xBB
  | .subD_yxIncToOut => 0xBC
  | .subRam_yxIncToOut => 0xBD
  | .subAc_yxIncToOut => 0xBE
  | .subIn_yxIncToOut => 0xBF
  | .stD_dToAc => 0xC0
  | .stRam_dToAc => 0xC1
  | .stAc_dToAc => 0xC2
  | .stIn_dToAc => 0xC3
  | .stD_xToAc => 0xC4
  | .stRam_xToAc => 0xC5
  | .stAc_xToAc => 0xC6
  | .stIn_xToAc => 0xC7
  | .stD_ydToAc => 0xC8
  | .stRam_ydToAc => 0xC9
  | .stAc_ydToAc => 0xCA
  | .stIn_ydToAc => 0xCB
  | .stD_yxToAc => 0xCC
  | .stRam_yxToAc => 0xCD
  | .stAc_yxToAc => 0xCE
  | .stIn_yxToAc => 0xCF
  | .stD_dToX => 0xD0
  | .stRam_dToX => 0xD1
  | .stAc_dToX => 0xD2
  | .stIn_dToX => 0xD3
  | .stD_dToY => 0xD4
  | .stRam_dToY => 0xD5
  | .stAc_dToY => 0xD6
  | .stIn_dToY => 0xD7
  | .stD_dToOut => 0xD8
  | .stRam_dToOut => 0xD9
  | .stAc_dToOut => 0xDA
  | .stIn_dToOut => 0xDB
  | .stD_yxIncToOut => 0xDC
  | .stRam_yxIncToOut => 0xDD
  | .stAc_yxIncToOut => 0xDE
  | .stIn_yxIncToOut => 0xDF
  | .jmpD => 0xE0
  | .jmpRam => 0xE1
  | .jmpAc => 0xE2
  | .jmpIn => 0xE3
  | .bgtD => 0xE4
  | .bgtRam => 0xE5
  | .bgtAc => 0xE6
  | .bgtIn => 0xE7
  | .bltD => 0xE8
  | .bltRam => 0xE9
  | .bltAc => 0xEA
  | .bltIn => 0xEB
  | .bneD => 0xEC
  | .bneRam => 0xED
  | .bneAc => 0xEE
  | .bneIn => 0xEF
  | .beqD => 0xF0
  | .beqRam => 0xF1
  | .beqAc => 0xF2
  | .beqIn => 0xF3
  | .bgeD => 0xF4
  | .bgeRam => 0xF5
  | .bgeAc => 0xF6
  | .bgeIn => 0xF7
  | .bleD => 0xF8
  | .bleRam => 0xF9
  | .bleAc => 0xFA
  | .bleIn => 0xFB
  | .braD => 0xFC
  | .braRam => 0xFD
  | .braAc => 0xFE
  | .braIn => 0xFF

/-- The encoder writes the opcode byte of the matrix (R92 agrees with R94), and the instruction is well formed. -/
def MatrixOpcode.Statement (i : Instr) : Prop := i.wellFormed = true ∧ encodeOpcode i = matrixOpcode i

theorem MatrixOpcode.ldD_dToAc : MatrixOpcode.Statement .ldD_dToAc := ⟨rfl, rfl⟩
theorem MatrixOpcode.ldRam_dToAc : MatrixOpcode.Statement .ldRam_dToAc := ⟨rfl, rfl⟩
theorem MatrixOpcode.ldAc_dToAc : MatrixOpcode.Statement .ldAc_dToAc := ⟨rfl, rfl⟩
theorem MatrixOpcode.ldIn_dToAc : MatrixOpcode.Statement .ldIn_dToAc := ⟨rfl, rfl⟩
theorem MatrixOpcode.ldD_xToAc : MatrixOpcode.Statement .ldD_xToAc := ⟨rfl, rfl⟩
theorem MatrixOpcode.ldRam_xToAc : MatrixOpcode.Statement .ldRam_xToAc := ⟨rfl, rfl⟩
theorem MatrixOpcode.ldAc_xToAc : MatrixOpcode.Statement .ldAc_xToAc := ⟨rfl, rfl⟩
theorem MatrixOpcode.ldIn_xToAc : MatrixOpcode.Statement .ldIn_xToAc := ⟨rfl, rfl⟩
theorem MatrixOpcode.ldD_ydToAc : MatrixOpcode.Statement .ldD_ydToAc := ⟨rfl, rfl⟩
theorem MatrixOpcode.ldRam_ydToAc : MatrixOpcode.Statement .ldRam_ydToAc := ⟨rfl, rfl⟩
theorem MatrixOpcode.ldAc_ydToAc : MatrixOpcode.Statement .ldAc_ydToAc := ⟨rfl, rfl⟩
theorem MatrixOpcode.ldIn_ydToAc : MatrixOpcode.Statement .ldIn_ydToAc := ⟨rfl, rfl⟩
theorem MatrixOpcode.ldD_yxToAc : MatrixOpcode.Statement .ldD_yxToAc := ⟨rfl, rfl⟩
theorem MatrixOpcode.ldRam_yxToAc : MatrixOpcode.Statement .ldRam_yxToAc := ⟨rfl, rfl⟩
theorem MatrixOpcode.ldAc_yxToAc : MatrixOpcode.Statement .ldAc_yxToAc := ⟨rfl, rfl⟩
theorem MatrixOpcode.ldIn_yxToAc : MatrixOpcode.Statement .ldIn_yxToAc := ⟨rfl, rfl⟩
theorem MatrixOpcode.ldD_dToX : MatrixOpcode.Statement .ldD_dToX := ⟨rfl, rfl⟩
theorem MatrixOpcode.ldRam_dToX : MatrixOpcode.Statement .ldRam_dToX := ⟨rfl, rfl⟩
theorem MatrixOpcode.ldAc_dToX : MatrixOpcode.Statement .ldAc_dToX := ⟨rfl, rfl⟩
theorem MatrixOpcode.ldIn_dToX : MatrixOpcode.Statement .ldIn_dToX := ⟨rfl, rfl⟩
theorem MatrixOpcode.ldD_dToY : MatrixOpcode.Statement .ldD_dToY := ⟨rfl, rfl⟩
theorem MatrixOpcode.ldRam_dToY : MatrixOpcode.Statement .ldRam_dToY := ⟨rfl, rfl⟩
theorem MatrixOpcode.ldAc_dToY : MatrixOpcode.Statement .ldAc_dToY := ⟨rfl, rfl⟩
theorem MatrixOpcode.ldIn_dToY : MatrixOpcode.Statement .ldIn_dToY := ⟨rfl, rfl⟩
theorem MatrixOpcode.ldD_dToOut : MatrixOpcode.Statement .ldD_dToOut := ⟨rfl, rfl⟩
theorem MatrixOpcode.ldRam_dToOut : MatrixOpcode.Statement .ldRam_dToOut := ⟨rfl, rfl⟩
theorem MatrixOpcode.ldAc_dToOut : MatrixOpcode.Statement .ldAc_dToOut := ⟨rfl, rfl⟩
theorem MatrixOpcode.ldIn_dToOut : MatrixOpcode.Statement .ldIn_dToOut := ⟨rfl, rfl⟩
theorem MatrixOpcode.ldD_yxIncToOut : MatrixOpcode.Statement .ldD_yxIncToOut := ⟨rfl, rfl⟩
theorem MatrixOpcode.ldRam_yxIncToOut : MatrixOpcode.Statement .ldRam_yxIncToOut := ⟨rfl, rfl⟩
theorem MatrixOpcode.ldAc_yxIncToOut : MatrixOpcode.Statement .ldAc_yxIncToOut := ⟨rfl, rfl⟩
theorem MatrixOpcode.ldIn_yxIncToOut : MatrixOpcode.Statement .ldIn_yxIncToOut := ⟨rfl, rfl⟩
theorem MatrixOpcode.andD_dToAc : MatrixOpcode.Statement .andD_dToAc := ⟨rfl, rfl⟩
theorem MatrixOpcode.andRam_dToAc : MatrixOpcode.Statement .andRam_dToAc := ⟨rfl, rfl⟩
theorem MatrixOpcode.andAc_dToAc : MatrixOpcode.Statement .andAc_dToAc := ⟨rfl, rfl⟩
theorem MatrixOpcode.andIn_dToAc : MatrixOpcode.Statement .andIn_dToAc := ⟨rfl, rfl⟩
theorem MatrixOpcode.andD_xToAc : MatrixOpcode.Statement .andD_xToAc := ⟨rfl, rfl⟩
theorem MatrixOpcode.andRam_xToAc : MatrixOpcode.Statement .andRam_xToAc := ⟨rfl, rfl⟩
theorem MatrixOpcode.andAc_xToAc : MatrixOpcode.Statement .andAc_xToAc := ⟨rfl, rfl⟩
theorem MatrixOpcode.andIn_xToAc : MatrixOpcode.Statement .andIn_xToAc := ⟨rfl, rfl⟩
theorem MatrixOpcode.andD_ydToAc : MatrixOpcode.Statement .andD_ydToAc := ⟨rfl, rfl⟩
theorem MatrixOpcode.andRam_ydToAc : MatrixOpcode.Statement .andRam_ydToAc := ⟨rfl, rfl⟩
theorem MatrixOpcode.andAc_ydToAc : MatrixOpcode.Statement .andAc_ydToAc := ⟨rfl, rfl⟩
theorem MatrixOpcode.andIn_ydToAc : MatrixOpcode.Statement .andIn_ydToAc := ⟨rfl, rfl⟩
theorem MatrixOpcode.andD_yxToAc : MatrixOpcode.Statement .andD_yxToAc := ⟨rfl, rfl⟩
theorem MatrixOpcode.andRam_yxToAc : MatrixOpcode.Statement .andRam_yxToAc := ⟨rfl, rfl⟩
theorem MatrixOpcode.andAc_yxToAc : MatrixOpcode.Statement .andAc_yxToAc := ⟨rfl, rfl⟩
theorem MatrixOpcode.andIn_yxToAc : MatrixOpcode.Statement .andIn_yxToAc := ⟨rfl, rfl⟩
theorem MatrixOpcode.andD_dToX : MatrixOpcode.Statement .andD_dToX := ⟨rfl, rfl⟩
theorem MatrixOpcode.andRam_dToX : MatrixOpcode.Statement .andRam_dToX := ⟨rfl, rfl⟩
theorem MatrixOpcode.andAc_dToX : MatrixOpcode.Statement .andAc_dToX := ⟨rfl, rfl⟩
theorem MatrixOpcode.andIn_dToX : MatrixOpcode.Statement .andIn_dToX := ⟨rfl, rfl⟩
theorem MatrixOpcode.andD_dToY : MatrixOpcode.Statement .andD_dToY := ⟨rfl, rfl⟩
theorem MatrixOpcode.andRam_dToY : MatrixOpcode.Statement .andRam_dToY := ⟨rfl, rfl⟩
theorem MatrixOpcode.andAc_dToY : MatrixOpcode.Statement .andAc_dToY := ⟨rfl, rfl⟩
theorem MatrixOpcode.andIn_dToY : MatrixOpcode.Statement .andIn_dToY := ⟨rfl, rfl⟩
theorem MatrixOpcode.andD_dToOut : MatrixOpcode.Statement .andD_dToOut := ⟨rfl, rfl⟩
theorem MatrixOpcode.andRam_dToOut : MatrixOpcode.Statement .andRam_dToOut := ⟨rfl, rfl⟩
theorem MatrixOpcode.andAc_dToOut : MatrixOpcode.Statement .andAc_dToOut := ⟨rfl, rfl⟩
theorem MatrixOpcode.andIn_dToOut : MatrixOpcode.Statement .andIn_dToOut := ⟨rfl, rfl⟩
theorem MatrixOpcode.andD_yxIncToOut : MatrixOpcode.Statement .andD_yxIncToOut := ⟨rfl, rfl⟩
theorem MatrixOpcode.andRam_yxIncToOut : MatrixOpcode.Statement .andRam_yxIncToOut := ⟨rfl, rfl⟩
theorem MatrixOpcode.andAc_yxIncToOut : MatrixOpcode.Statement .andAc_yxIncToOut := ⟨rfl, rfl⟩
theorem MatrixOpcode.andIn_yxIncToOut : MatrixOpcode.Statement .andIn_yxIncToOut := ⟨rfl, rfl⟩
theorem MatrixOpcode.orD_dToAc : MatrixOpcode.Statement .orD_dToAc := ⟨rfl, rfl⟩
theorem MatrixOpcode.orRam_dToAc : MatrixOpcode.Statement .orRam_dToAc := ⟨rfl, rfl⟩
theorem MatrixOpcode.orAc_dToAc : MatrixOpcode.Statement .orAc_dToAc := ⟨rfl, rfl⟩
theorem MatrixOpcode.orIn_dToAc : MatrixOpcode.Statement .orIn_dToAc := ⟨rfl, rfl⟩
theorem MatrixOpcode.orD_xToAc : MatrixOpcode.Statement .orD_xToAc := ⟨rfl, rfl⟩
theorem MatrixOpcode.orRam_xToAc : MatrixOpcode.Statement .orRam_xToAc := ⟨rfl, rfl⟩
theorem MatrixOpcode.orAc_xToAc : MatrixOpcode.Statement .orAc_xToAc := ⟨rfl, rfl⟩
theorem MatrixOpcode.orIn_xToAc : MatrixOpcode.Statement .orIn_xToAc := ⟨rfl, rfl⟩
theorem MatrixOpcode.orD_ydToAc : MatrixOpcode.Statement .orD_ydToAc := ⟨rfl, rfl⟩
theorem MatrixOpcode.orRam_ydToAc : MatrixOpcode.Statement .orRam_ydToAc := ⟨rfl, rfl⟩
theorem MatrixOpcode.orAc_ydToAc : MatrixOpcode.Statement .orAc_ydToAc := ⟨rfl, rfl⟩
theorem MatrixOpcode.orIn_ydToAc : MatrixOpcode.Statement .orIn_ydToAc := ⟨rfl, rfl⟩
theorem MatrixOpcode.orD_yxToAc : MatrixOpcode.Statement .orD_yxToAc := ⟨rfl, rfl⟩
theorem MatrixOpcode.orRam_yxToAc : MatrixOpcode.Statement .orRam_yxToAc := ⟨rfl, rfl⟩
theorem MatrixOpcode.orAc_yxToAc : MatrixOpcode.Statement .orAc_yxToAc := ⟨rfl, rfl⟩
theorem MatrixOpcode.orIn_yxToAc : MatrixOpcode.Statement .orIn_yxToAc := ⟨rfl, rfl⟩
theorem MatrixOpcode.orD_dToX : MatrixOpcode.Statement .orD_dToX := ⟨rfl, rfl⟩
theorem MatrixOpcode.orRam_dToX : MatrixOpcode.Statement .orRam_dToX := ⟨rfl, rfl⟩
theorem MatrixOpcode.orAc_dToX : MatrixOpcode.Statement .orAc_dToX := ⟨rfl, rfl⟩
theorem MatrixOpcode.orIn_dToX : MatrixOpcode.Statement .orIn_dToX := ⟨rfl, rfl⟩
theorem MatrixOpcode.orD_dToY : MatrixOpcode.Statement .orD_dToY := ⟨rfl, rfl⟩
theorem MatrixOpcode.orRam_dToY : MatrixOpcode.Statement .orRam_dToY := ⟨rfl, rfl⟩
theorem MatrixOpcode.orAc_dToY : MatrixOpcode.Statement .orAc_dToY := ⟨rfl, rfl⟩
theorem MatrixOpcode.orIn_dToY : MatrixOpcode.Statement .orIn_dToY := ⟨rfl, rfl⟩
theorem MatrixOpcode.orD_dToOut : MatrixOpcode.Statement .orD_dToOut := ⟨rfl, rfl⟩
theorem MatrixOpcode.orRam_dToOut : MatrixOpcode.Statement .orRam_dToOut := ⟨rfl, rfl⟩
theorem MatrixOpcode.orAc_dToOut : MatrixOpcode.Statement .orAc_dToOut := ⟨rfl, rfl⟩
theorem MatrixOpcode.orIn_dToOut : MatrixOpcode.Statement .orIn_dToOut := ⟨rfl, rfl⟩
theorem MatrixOpcode.orD_yxIncToOut : MatrixOpcode.Statement .orD_yxIncToOut := ⟨rfl, rfl⟩
theorem MatrixOpcode.orRam_yxIncToOut : MatrixOpcode.Statement .orRam_yxIncToOut := ⟨rfl, rfl⟩
theorem MatrixOpcode.orAc_yxIncToOut : MatrixOpcode.Statement .orAc_yxIncToOut := ⟨rfl, rfl⟩
theorem MatrixOpcode.orIn_yxIncToOut : MatrixOpcode.Statement .orIn_yxIncToOut := ⟨rfl, rfl⟩
theorem MatrixOpcode.xorD_dToAc : MatrixOpcode.Statement .xorD_dToAc := ⟨rfl, rfl⟩
theorem MatrixOpcode.xorRam_dToAc : MatrixOpcode.Statement .xorRam_dToAc := ⟨rfl, rfl⟩
theorem MatrixOpcode.xorAc_dToAc : MatrixOpcode.Statement .xorAc_dToAc := ⟨rfl, rfl⟩
theorem MatrixOpcode.xorIn_dToAc : MatrixOpcode.Statement .xorIn_dToAc := ⟨rfl, rfl⟩
theorem MatrixOpcode.xorD_xToAc : MatrixOpcode.Statement .xorD_xToAc := ⟨rfl, rfl⟩
theorem MatrixOpcode.xorRam_xToAc : MatrixOpcode.Statement .xorRam_xToAc := ⟨rfl, rfl⟩
theorem MatrixOpcode.xorAc_xToAc : MatrixOpcode.Statement .xorAc_xToAc := ⟨rfl, rfl⟩
theorem MatrixOpcode.xorIn_xToAc : MatrixOpcode.Statement .xorIn_xToAc := ⟨rfl, rfl⟩
theorem MatrixOpcode.xorD_ydToAc : MatrixOpcode.Statement .xorD_ydToAc := ⟨rfl, rfl⟩
theorem MatrixOpcode.xorRam_ydToAc : MatrixOpcode.Statement .xorRam_ydToAc := ⟨rfl, rfl⟩
theorem MatrixOpcode.xorAc_ydToAc : MatrixOpcode.Statement .xorAc_ydToAc := ⟨rfl, rfl⟩
theorem MatrixOpcode.xorIn_ydToAc : MatrixOpcode.Statement .xorIn_ydToAc := ⟨rfl, rfl⟩
theorem MatrixOpcode.xorD_yxToAc : MatrixOpcode.Statement .xorD_yxToAc := ⟨rfl, rfl⟩
theorem MatrixOpcode.xorRam_yxToAc : MatrixOpcode.Statement .xorRam_yxToAc := ⟨rfl, rfl⟩
theorem MatrixOpcode.xorAc_yxToAc : MatrixOpcode.Statement .xorAc_yxToAc := ⟨rfl, rfl⟩
theorem MatrixOpcode.xorIn_yxToAc : MatrixOpcode.Statement .xorIn_yxToAc := ⟨rfl, rfl⟩
theorem MatrixOpcode.xorD_dToX : MatrixOpcode.Statement .xorD_dToX := ⟨rfl, rfl⟩
theorem MatrixOpcode.xorRam_dToX : MatrixOpcode.Statement .xorRam_dToX := ⟨rfl, rfl⟩
theorem MatrixOpcode.xorAc_dToX : MatrixOpcode.Statement .xorAc_dToX := ⟨rfl, rfl⟩
theorem MatrixOpcode.xorIn_dToX : MatrixOpcode.Statement .xorIn_dToX := ⟨rfl, rfl⟩
theorem MatrixOpcode.xorD_dToY : MatrixOpcode.Statement .xorD_dToY := ⟨rfl, rfl⟩
theorem MatrixOpcode.xorRam_dToY : MatrixOpcode.Statement .xorRam_dToY := ⟨rfl, rfl⟩
theorem MatrixOpcode.xorAc_dToY : MatrixOpcode.Statement .xorAc_dToY := ⟨rfl, rfl⟩
theorem MatrixOpcode.xorIn_dToY : MatrixOpcode.Statement .xorIn_dToY := ⟨rfl, rfl⟩
theorem MatrixOpcode.xorD_dToOut : MatrixOpcode.Statement .xorD_dToOut := ⟨rfl, rfl⟩
theorem MatrixOpcode.xorRam_dToOut : MatrixOpcode.Statement .xorRam_dToOut := ⟨rfl, rfl⟩
theorem MatrixOpcode.xorAc_dToOut : MatrixOpcode.Statement .xorAc_dToOut := ⟨rfl, rfl⟩
theorem MatrixOpcode.xorIn_dToOut : MatrixOpcode.Statement .xorIn_dToOut := ⟨rfl, rfl⟩
theorem MatrixOpcode.xorD_yxIncToOut : MatrixOpcode.Statement .xorD_yxIncToOut := ⟨rfl, rfl⟩
theorem MatrixOpcode.xorRam_yxIncToOut : MatrixOpcode.Statement .xorRam_yxIncToOut := ⟨rfl, rfl⟩
theorem MatrixOpcode.xorAc_yxIncToOut : MatrixOpcode.Statement .xorAc_yxIncToOut := ⟨rfl, rfl⟩
theorem MatrixOpcode.xorIn_yxIncToOut : MatrixOpcode.Statement .xorIn_yxIncToOut := ⟨rfl, rfl⟩
theorem MatrixOpcode.addD_dToAc : MatrixOpcode.Statement .addD_dToAc := ⟨rfl, rfl⟩
theorem MatrixOpcode.addRam_dToAc : MatrixOpcode.Statement .addRam_dToAc := ⟨rfl, rfl⟩
theorem MatrixOpcode.addAc_dToAc : MatrixOpcode.Statement .addAc_dToAc := ⟨rfl, rfl⟩
theorem MatrixOpcode.addIn_dToAc : MatrixOpcode.Statement .addIn_dToAc := ⟨rfl, rfl⟩
theorem MatrixOpcode.addD_xToAc : MatrixOpcode.Statement .addD_xToAc := ⟨rfl, rfl⟩
theorem MatrixOpcode.addRam_xToAc : MatrixOpcode.Statement .addRam_xToAc := ⟨rfl, rfl⟩
theorem MatrixOpcode.addAc_xToAc : MatrixOpcode.Statement .addAc_xToAc := ⟨rfl, rfl⟩
theorem MatrixOpcode.addIn_xToAc : MatrixOpcode.Statement .addIn_xToAc := ⟨rfl, rfl⟩
theorem MatrixOpcode.addD_ydToAc : MatrixOpcode.Statement .addD_ydToAc := ⟨rfl, rfl⟩
theorem MatrixOpcode.addRam_ydToAc : MatrixOpcode.Statement .addRam_ydToAc := ⟨rfl, rfl⟩
theorem MatrixOpcode.addAc_ydToAc : MatrixOpcode.Statement .addAc_ydToAc := ⟨rfl, rfl⟩
theorem MatrixOpcode.addIn_ydToAc : MatrixOpcode.Statement .addIn_ydToAc := ⟨rfl, rfl⟩
theorem MatrixOpcode.addD_yxToAc : MatrixOpcode.Statement .addD_yxToAc := ⟨rfl, rfl⟩
theorem MatrixOpcode.addRam_yxToAc : MatrixOpcode.Statement .addRam_yxToAc := ⟨rfl, rfl⟩
theorem MatrixOpcode.addAc_yxToAc : MatrixOpcode.Statement .addAc_yxToAc := ⟨rfl, rfl⟩
theorem MatrixOpcode.addIn_yxToAc : MatrixOpcode.Statement .addIn_yxToAc := ⟨rfl, rfl⟩
theorem MatrixOpcode.addD_dToX : MatrixOpcode.Statement .addD_dToX := ⟨rfl, rfl⟩
theorem MatrixOpcode.addRam_dToX : MatrixOpcode.Statement .addRam_dToX := ⟨rfl, rfl⟩
theorem MatrixOpcode.addAc_dToX : MatrixOpcode.Statement .addAc_dToX := ⟨rfl, rfl⟩
theorem MatrixOpcode.addIn_dToX : MatrixOpcode.Statement .addIn_dToX := ⟨rfl, rfl⟩
theorem MatrixOpcode.addD_dToY : MatrixOpcode.Statement .addD_dToY := ⟨rfl, rfl⟩
theorem MatrixOpcode.addRam_dToY : MatrixOpcode.Statement .addRam_dToY := ⟨rfl, rfl⟩
theorem MatrixOpcode.addAc_dToY : MatrixOpcode.Statement .addAc_dToY := ⟨rfl, rfl⟩
theorem MatrixOpcode.addIn_dToY : MatrixOpcode.Statement .addIn_dToY := ⟨rfl, rfl⟩
theorem MatrixOpcode.addD_dToOut : MatrixOpcode.Statement .addD_dToOut := ⟨rfl, rfl⟩
theorem MatrixOpcode.addRam_dToOut : MatrixOpcode.Statement .addRam_dToOut := ⟨rfl, rfl⟩
theorem MatrixOpcode.addAc_dToOut : MatrixOpcode.Statement .addAc_dToOut := ⟨rfl, rfl⟩
theorem MatrixOpcode.addIn_dToOut : MatrixOpcode.Statement .addIn_dToOut := ⟨rfl, rfl⟩
theorem MatrixOpcode.addD_yxIncToOut : MatrixOpcode.Statement .addD_yxIncToOut := ⟨rfl, rfl⟩
theorem MatrixOpcode.addRam_yxIncToOut : MatrixOpcode.Statement .addRam_yxIncToOut := ⟨rfl, rfl⟩
theorem MatrixOpcode.addAc_yxIncToOut : MatrixOpcode.Statement .addAc_yxIncToOut := ⟨rfl, rfl⟩
theorem MatrixOpcode.addIn_yxIncToOut : MatrixOpcode.Statement .addIn_yxIncToOut := ⟨rfl, rfl⟩
theorem MatrixOpcode.subD_dToAc : MatrixOpcode.Statement .subD_dToAc := ⟨rfl, rfl⟩
theorem MatrixOpcode.subRam_dToAc : MatrixOpcode.Statement .subRam_dToAc := ⟨rfl, rfl⟩
theorem MatrixOpcode.subAc_dToAc : MatrixOpcode.Statement .subAc_dToAc := ⟨rfl, rfl⟩
theorem MatrixOpcode.subIn_dToAc : MatrixOpcode.Statement .subIn_dToAc := ⟨rfl, rfl⟩
theorem MatrixOpcode.subD_xToAc : MatrixOpcode.Statement .subD_xToAc := ⟨rfl, rfl⟩
theorem MatrixOpcode.subRam_xToAc : MatrixOpcode.Statement .subRam_xToAc := ⟨rfl, rfl⟩
theorem MatrixOpcode.subAc_xToAc : MatrixOpcode.Statement .subAc_xToAc := ⟨rfl, rfl⟩
theorem MatrixOpcode.subIn_xToAc : MatrixOpcode.Statement .subIn_xToAc := ⟨rfl, rfl⟩
theorem MatrixOpcode.subD_ydToAc : MatrixOpcode.Statement .subD_ydToAc := ⟨rfl, rfl⟩
theorem MatrixOpcode.subRam_ydToAc : MatrixOpcode.Statement .subRam_ydToAc := ⟨rfl, rfl⟩
theorem MatrixOpcode.subAc_ydToAc : MatrixOpcode.Statement .subAc_ydToAc := ⟨rfl, rfl⟩
theorem MatrixOpcode.subIn_ydToAc : MatrixOpcode.Statement .subIn_ydToAc := ⟨rfl, rfl⟩
theorem MatrixOpcode.subD_yxToAc : MatrixOpcode.Statement .subD_yxToAc := ⟨rfl, rfl⟩
theorem MatrixOpcode.subRam_yxToAc : MatrixOpcode.Statement .subRam_yxToAc := ⟨rfl, rfl⟩
theorem MatrixOpcode.subAc_yxToAc : MatrixOpcode.Statement .subAc_yxToAc := ⟨rfl, rfl⟩
theorem MatrixOpcode.subIn_yxToAc : MatrixOpcode.Statement .subIn_yxToAc := ⟨rfl, rfl⟩
theorem MatrixOpcode.subD_dToX : MatrixOpcode.Statement .subD_dToX := ⟨rfl, rfl⟩
theorem MatrixOpcode.subRam_dToX : MatrixOpcode.Statement .subRam_dToX := ⟨rfl, rfl⟩
theorem MatrixOpcode.subAc_dToX : MatrixOpcode.Statement .subAc_dToX := ⟨rfl, rfl⟩
theorem MatrixOpcode.subIn_dToX : MatrixOpcode.Statement .subIn_dToX := ⟨rfl, rfl⟩
theorem MatrixOpcode.subD_dToY : MatrixOpcode.Statement .subD_dToY := ⟨rfl, rfl⟩
theorem MatrixOpcode.subRam_dToY : MatrixOpcode.Statement .subRam_dToY := ⟨rfl, rfl⟩
theorem MatrixOpcode.subAc_dToY : MatrixOpcode.Statement .subAc_dToY := ⟨rfl, rfl⟩
theorem MatrixOpcode.subIn_dToY : MatrixOpcode.Statement .subIn_dToY := ⟨rfl, rfl⟩
theorem MatrixOpcode.subD_dToOut : MatrixOpcode.Statement .subD_dToOut := ⟨rfl, rfl⟩
theorem MatrixOpcode.subRam_dToOut : MatrixOpcode.Statement .subRam_dToOut := ⟨rfl, rfl⟩
theorem MatrixOpcode.subAc_dToOut : MatrixOpcode.Statement .subAc_dToOut := ⟨rfl, rfl⟩
theorem MatrixOpcode.subIn_dToOut : MatrixOpcode.Statement .subIn_dToOut := ⟨rfl, rfl⟩
theorem MatrixOpcode.subD_yxIncToOut : MatrixOpcode.Statement .subD_yxIncToOut := ⟨rfl, rfl⟩
theorem MatrixOpcode.subRam_yxIncToOut : MatrixOpcode.Statement .subRam_yxIncToOut := ⟨rfl, rfl⟩
theorem MatrixOpcode.subAc_yxIncToOut : MatrixOpcode.Statement .subAc_yxIncToOut := ⟨rfl, rfl⟩
theorem MatrixOpcode.subIn_yxIncToOut : MatrixOpcode.Statement .subIn_yxIncToOut := ⟨rfl, rfl⟩
theorem MatrixOpcode.stD_dToAc : MatrixOpcode.Statement .stD_dToAc := ⟨rfl, rfl⟩
theorem MatrixOpcode.stRam_dToAc : MatrixOpcode.Statement .stRam_dToAc := ⟨rfl, rfl⟩
theorem MatrixOpcode.stAc_dToAc : MatrixOpcode.Statement .stAc_dToAc := ⟨rfl, rfl⟩
theorem MatrixOpcode.stIn_dToAc : MatrixOpcode.Statement .stIn_dToAc := ⟨rfl, rfl⟩
theorem MatrixOpcode.stD_xToAc : MatrixOpcode.Statement .stD_xToAc := ⟨rfl, rfl⟩
theorem MatrixOpcode.stRam_xToAc : MatrixOpcode.Statement .stRam_xToAc := ⟨rfl, rfl⟩
theorem MatrixOpcode.stAc_xToAc : MatrixOpcode.Statement .stAc_xToAc := ⟨rfl, rfl⟩
theorem MatrixOpcode.stIn_xToAc : MatrixOpcode.Statement .stIn_xToAc := ⟨rfl, rfl⟩
theorem MatrixOpcode.stD_ydToAc : MatrixOpcode.Statement .stD_ydToAc := ⟨rfl, rfl⟩
theorem MatrixOpcode.stRam_ydToAc : MatrixOpcode.Statement .stRam_ydToAc := ⟨rfl, rfl⟩
theorem MatrixOpcode.stAc_ydToAc : MatrixOpcode.Statement .stAc_ydToAc := ⟨rfl, rfl⟩
theorem MatrixOpcode.stIn_ydToAc : MatrixOpcode.Statement .stIn_ydToAc := ⟨rfl, rfl⟩
theorem MatrixOpcode.stD_yxToAc : MatrixOpcode.Statement .stD_yxToAc := ⟨rfl, rfl⟩
theorem MatrixOpcode.stRam_yxToAc : MatrixOpcode.Statement .stRam_yxToAc := ⟨rfl, rfl⟩
theorem MatrixOpcode.stAc_yxToAc : MatrixOpcode.Statement .stAc_yxToAc := ⟨rfl, rfl⟩
theorem MatrixOpcode.stIn_yxToAc : MatrixOpcode.Statement .stIn_yxToAc := ⟨rfl, rfl⟩
theorem MatrixOpcode.stD_dToX : MatrixOpcode.Statement .stD_dToX := ⟨rfl, rfl⟩
theorem MatrixOpcode.stRam_dToX : MatrixOpcode.Statement .stRam_dToX := ⟨rfl, rfl⟩
theorem MatrixOpcode.stAc_dToX : MatrixOpcode.Statement .stAc_dToX := ⟨rfl, rfl⟩
theorem MatrixOpcode.stIn_dToX : MatrixOpcode.Statement .stIn_dToX := ⟨rfl, rfl⟩
theorem MatrixOpcode.stD_dToY : MatrixOpcode.Statement .stD_dToY := ⟨rfl, rfl⟩
theorem MatrixOpcode.stRam_dToY : MatrixOpcode.Statement .stRam_dToY := ⟨rfl, rfl⟩
theorem MatrixOpcode.stAc_dToY : MatrixOpcode.Statement .stAc_dToY := ⟨rfl, rfl⟩
theorem MatrixOpcode.stIn_dToY : MatrixOpcode.Statement .stIn_dToY := ⟨rfl, rfl⟩
theorem MatrixOpcode.stD_dToOut : MatrixOpcode.Statement .stD_dToOut := ⟨rfl, rfl⟩
theorem MatrixOpcode.stRam_dToOut : MatrixOpcode.Statement .stRam_dToOut := ⟨rfl, rfl⟩
theorem MatrixOpcode.stAc_dToOut : MatrixOpcode.Statement .stAc_dToOut := ⟨rfl, rfl⟩
theorem MatrixOpcode.stIn_dToOut : MatrixOpcode.Statement .stIn_dToOut := ⟨rfl, rfl⟩
theorem MatrixOpcode.stD_yxIncToOut : MatrixOpcode.Statement .stD_yxIncToOut := ⟨rfl, rfl⟩
theorem MatrixOpcode.stRam_yxIncToOut : MatrixOpcode.Statement .stRam_yxIncToOut := ⟨rfl, rfl⟩
theorem MatrixOpcode.stAc_yxIncToOut : MatrixOpcode.Statement .stAc_yxIncToOut := ⟨rfl, rfl⟩
theorem MatrixOpcode.stIn_yxIncToOut : MatrixOpcode.Statement .stIn_yxIncToOut := ⟨rfl, rfl⟩
theorem MatrixOpcode.jmpD : MatrixOpcode.Statement .jmpD := ⟨rfl, rfl⟩
theorem MatrixOpcode.jmpRam : MatrixOpcode.Statement .jmpRam := ⟨rfl, rfl⟩
theorem MatrixOpcode.jmpAc : MatrixOpcode.Statement .jmpAc := ⟨rfl, rfl⟩
theorem MatrixOpcode.jmpIn : MatrixOpcode.Statement .jmpIn := ⟨rfl, rfl⟩
theorem MatrixOpcode.bgtD : MatrixOpcode.Statement .bgtD := ⟨rfl, rfl⟩
theorem MatrixOpcode.bgtRam : MatrixOpcode.Statement .bgtRam := ⟨rfl, rfl⟩
theorem MatrixOpcode.bgtAc : MatrixOpcode.Statement .bgtAc := ⟨rfl, rfl⟩
theorem MatrixOpcode.bgtIn : MatrixOpcode.Statement .bgtIn := ⟨rfl, rfl⟩
theorem MatrixOpcode.bltD : MatrixOpcode.Statement .bltD := ⟨rfl, rfl⟩
theorem MatrixOpcode.bltRam : MatrixOpcode.Statement .bltRam := ⟨rfl, rfl⟩
theorem MatrixOpcode.bltAc : MatrixOpcode.Statement .bltAc := ⟨rfl, rfl⟩
theorem MatrixOpcode.bltIn : MatrixOpcode.Statement .bltIn := ⟨rfl, rfl⟩
theorem MatrixOpcode.bneD : MatrixOpcode.Statement .bneD := ⟨rfl, rfl⟩
theorem MatrixOpcode.bneRam : MatrixOpcode.Statement .bneRam := ⟨rfl, rfl⟩
theorem MatrixOpcode.bneAc : MatrixOpcode.Statement .bneAc := ⟨rfl, rfl⟩
theorem MatrixOpcode.bneIn : MatrixOpcode.Statement .bneIn := ⟨rfl, rfl⟩
theorem MatrixOpcode.beqD : MatrixOpcode.Statement .beqD := ⟨rfl, rfl⟩
theorem MatrixOpcode.beqRam : MatrixOpcode.Statement .beqRam := ⟨rfl, rfl⟩
theorem MatrixOpcode.beqAc : MatrixOpcode.Statement .beqAc := ⟨rfl, rfl⟩
theorem MatrixOpcode.beqIn : MatrixOpcode.Statement .beqIn := ⟨rfl, rfl⟩
theorem MatrixOpcode.bgeD : MatrixOpcode.Statement .bgeD := ⟨rfl, rfl⟩
theorem MatrixOpcode.bgeRam : MatrixOpcode.Statement .bgeRam := ⟨rfl, rfl⟩
theorem MatrixOpcode.bgeAc : MatrixOpcode.Statement .bgeAc := ⟨rfl, rfl⟩
theorem MatrixOpcode.bgeIn : MatrixOpcode.Statement .bgeIn := ⟨rfl, rfl⟩
theorem MatrixOpcode.bleD : MatrixOpcode.Statement .bleD := ⟨rfl, rfl⟩
theorem MatrixOpcode.bleRam : MatrixOpcode.Statement .bleRam := ⟨rfl, rfl⟩
theorem MatrixOpcode.bleAc : MatrixOpcode.Statement .bleAc := ⟨rfl, rfl⟩
theorem MatrixOpcode.bleIn : MatrixOpcode.Statement .bleIn := ⟨rfl, rfl⟩
theorem MatrixOpcode.braD : MatrixOpcode.Statement .braD := ⟨rfl, rfl⟩
theorem MatrixOpcode.braRam : MatrixOpcode.Statement .braRam := ⟨rfl, rfl⟩
theorem MatrixOpcode.braAc : MatrixOpcode.Statement .braAc := ⟨rfl, rfl⟩
theorem MatrixOpcode.braIn : MatrixOpcode.Statement .braIn := ⟨rfl, rfl⟩

end Sys2Proof.Laws
end

