-- ==== Sys2Proof/Tests/Slice0.lean ====
section
/-! SUPPORT. Tests: what is well formed, the decoding of every word, single cycles from the vectors of
95_test_vectors.md, and for every statement with hypotheses a state and operands that meet them. -/

namespace Sys2Proof.Tests

open Sys2Proof.Machine

/-! ### Well-formedness -/

/-- Every opcode byte is well formed (R88), so the check of `Instr` refuses nothing. -/
theorem test_every_opcode_well_formed : ∀ v : Byte, (decodeOpcode v).wellFormed = true := fun _ => rfl

/-- The check on whole pairs refuses an image of odd length (R66, D22). -/
theorem test_odd_image_refused : imageWholePairs [0x00, 0x42, 0x02] = false ∧ loadImage [0x00, 0x42, 0x02] = none := by
  decide

/-- The check on the size refuses an image of 65,537 pairs (R66), and one of 65,536 pairs passes it. -/
theorem test_oversize_image_refused :
    imageFits (List.replicate 131074 0x00) = false ∧ imageFits (List.replicate 131072 0x00) = true := by
  constructor <;> (rw [imageFits, List.length_replicate]; rfl)

/-- An image of whole pairs loads, the opcode byte of each pair first (R54, R66). -/
theorem test_image_loads : loadImage [0x00, 0x42, 0x02, 0x01] = some [⟨0x00, 0x42⟩, ⟨0x02, 0x01⟩] := by decide

/-! ### Decoding: each word written out from its fields (R81 to R85), operation, mode and bus -/

/-- Each opcode byte, with a data byte after it, decodes to the instruction beside it, which encodes to it. -/
def decodes (rows : List (Byte × Instr)) : Bool :=
  rows.all fun r => decode [r.1, 0xA5] == .ok r.2 0xA5 [] && encodeBytes r.2 0xA5 == [r.1, 0xA5]

theorem test_decode_ld : decodes
    [(0b00000000, .ldD_dToAc), (0b00000001, .ldRam_dToAc), (0b00000010, .ldAc_dToAc), (0b00000011, .ldIn_dToAc),
     (0b00000100, .ldD_xToAc), (0b00000101, .ldRam_xToAc), (0b00000110, .ldAc_xToAc), (0b00000111, .ldIn_xToAc),
     (0b00001000, .ldD_ydToAc), (0b00001001, .ldRam_ydToAc), (0b00001010, .ldAc_ydToAc), (0b00001011, .ldIn_ydToAc),
     (0b00001100, .ldD_yxToAc), (0b00001101, .ldRam_yxToAc), (0b00001110, .ldAc_yxToAc), (0b00001111, .ldIn_yxToAc),
     (0b00010000, .ldD_dToX), (0b00010001, .ldRam_dToX), (0b00010010, .ldAc_dToX), (0b00010011, .ldIn_dToX),
     (0b00010100, .ldD_dToY), (0b00010101, .ldRam_dToY), (0b00010110, .ldAc_dToY), (0b00010111, .ldIn_dToY),
     (0b00011000, .ldD_dToOut), (0b00011001, .ldRam_dToOut), (0b00011010, .ldAc_dToOut), (0b00011011, .ldIn_dToOut),
     (0b00011100, .ldD_yxIncToOut), (0b00011101, .ldRam_yxIncToOut), (0b00011110, .ldAc_yxIncToOut), (0b00011111, .ldIn_yxIncToOut)] := by
  decide

theorem test_decode_and : decodes
    [(0b00100000, .andD_dToAc), (0b00100001, .andRam_dToAc), (0b00100010, .andAc_dToAc), (0b00100011, .andIn_dToAc),
     (0b00100100, .andD_xToAc), (0b00100101, .andRam_xToAc), (0b00100110, .andAc_xToAc), (0b00100111, .andIn_xToAc),
     (0b00101000, .andD_ydToAc), (0b00101001, .andRam_ydToAc), (0b00101010, .andAc_ydToAc), (0b00101011, .andIn_ydToAc),
     (0b00101100, .andD_yxToAc), (0b00101101, .andRam_yxToAc), (0b00101110, .andAc_yxToAc), (0b00101111, .andIn_yxToAc),
     (0b00110000, .andD_dToX), (0b00110001, .andRam_dToX), (0b00110010, .andAc_dToX), (0b00110011, .andIn_dToX),
     (0b00110100, .andD_dToY), (0b00110101, .andRam_dToY), (0b00110110, .andAc_dToY), (0b00110111, .andIn_dToY),
     (0b00111000, .andD_dToOut), (0b00111001, .andRam_dToOut), (0b00111010, .andAc_dToOut), (0b00111011, .andIn_dToOut),
     (0b00111100, .andD_yxIncToOut), (0b00111101, .andRam_yxIncToOut), (0b00111110, .andAc_yxIncToOut), (0b00111111, .andIn_yxIncToOut)] := by
  decide

theorem test_decode_or : decodes
    [(0b01000000, .orD_dToAc), (0b01000001, .orRam_dToAc), (0b01000010, .orAc_dToAc), (0b01000011, .orIn_dToAc),
     (0b01000100, .orD_xToAc), (0b01000101, .orRam_xToAc), (0b01000110, .orAc_xToAc), (0b01000111, .orIn_xToAc),
     (0b01001000, .orD_ydToAc), (0b01001001, .orRam_ydToAc), (0b01001010, .orAc_ydToAc), (0b01001011, .orIn_ydToAc),
     (0b01001100, .orD_yxToAc), (0b01001101, .orRam_yxToAc), (0b01001110, .orAc_yxToAc), (0b01001111, .orIn_yxToAc),
     (0b01010000, .orD_dToX), (0b01010001, .orRam_dToX), (0b01010010, .orAc_dToX), (0b01010011, .orIn_dToX),
     (0b01010100, .orD_dToY), (0b01010101, .orRam_dToY), (0b01010110, .orAc_dToY), (0b01010111, .orIn_dToY),
     (0b01011000, .orD_dToOut), (0b01011001, .orRam_dToOut), (0b01011010, .orAc_dToOut), (0b01011011, .orIn_dToOut),
     (0b01011100, .orD_yxIncToOut), (0b01011101, .orRam_yxIncToOut), (0b01011110, .orAc_yxIncToOut), (0b01011111, .orIn_yxIncToOut)] := by
  decide

theorem test_decode_xor : decodes
    [(0b01100000, .xorD_dToAc), (0b01100001, .xorRam_dToAc), (0b01100010, .xorAc_dToAc), (0b01100011, .xorIn_dToAc),
     (0b01100100, .xorD_xToAc), (0b01100101, .xorRam_xToAc), (0b01100110, .xorAc_xToAc), (0b01100111, .xorIn_xToAc),
     (0b01101000, .xorD_ydToAc), (0b01101001, .xorRam_ydToAc), (0b01101010, .xorAc_ydToAc), (0b01101011, .xorIn_ydToAc),
     (0b01101100, .xorD_yxToAc), (0b01101101, .xorRam_yxToAc), (0b01101110, .xorAc_yxToAc), (0b01101111, .xorIn_yxToAc),
     (0b01110000, .xorD_dToX), (0b01110001, .xorRam_dToX), (0b01110010, .xorAc_dToX), (0b01110011, .xorIn_dToX),
     (0b01110100, .xorD_dToY), (0b01110101, .xorRam_dToY), (0b01110110, .xorAc_dToY), (0b01110111, .xorIn_dToY),
     (0b01111000, .xorD_dToOut), (0b01111001, .xorRam_dToOut), (0b01111010, .xorAc_dToOut), (0b01111011, .xorIn_dToOut),
     (0b01111100, .xorD_yxIncToOut), (0b01111101, .xorRam_yxIncToOut), (0b01111110, .xorAc_yxIncToOut), (0b01111111, .xorIn_yxIncToOut)] := by
  decide

theorem test_decode_add : decodes
    [(0b10000000, .addD_dToAc), (0b10000001, .addRam_dToAc), (0b10000010, .addAc_dToAc), (0b10000011, .addIn_dToAc),
     (0b10000100, .addD_xToAc), (0b10000101, .addRam_xToAc), (0b10000110, .addAc_xToAc), (0b10000111, .addIn_xToAc),
     (0b10001000, .addD_ydToAc), (0b10001001, .addRam_ydToAc), (0b10001010, .addAc_ydToAc), (0b10001011, .addIn_ydToAc),
     (0b10001100, .addD_yxToAc), (0b10001101, .addRam_yxToAc), (0b10001110, .addAc_yxToAc), (0b10001111, .addIn_yxToAc),
     (0b10010000, .addD_dToX), (0b10010001, .addRam_dToX), (0b10010010, .addAc_dToX), (0b10010011, .addIn_dToX),
     (0b10010100, .addD_dToY), (0b10010101, .addRam_dToY), (0b10010110, .addAc_dToY), (0b10010111, .addIn_dToY),
     (0b10011000, .addD_dToOut), (0b10011001, .addRam_dToOut), (0b10011010, .addAc_dToOut), (0b10011011, .addIn_dToOut),
     (0b10011100, .addD_yxIncToOut), (0b10011101, .addRam_yxIncToOut), (0b10011110, .addAc_yxIncToOut), (0b10011111, .addIn_yxIncToOut)] := by
  decide

theorem test_decode_sub : decodes
    [(0b10100000, .subD_dToAc), (0b10100001, .subRam_dToAc), (0b10100010, .subAc_dToAc), (0b10100011, .subIn_dToAc),
     (0b10100100, .subD_xToAc), (0b10100101, .subRam_xToAc), (0b10100110, .subAc_xToAc), (0b10100111, .subIn_xToAc),
     (0b10101000, .subD_ydToAc), (0b10101001, .subRam_ydToAc), (0b10101010, .subAc_ydToAc), (0b10101011, .subIn_ydToAc),
     (0b10101100, .subD_yxToAc), (0b10101101, .subRam_yxToAc), (0b10101110, .subAc_yxToAc), (0b10101111, .subIn_yxToAc),
     (0b10110000, .subD_dToX), (0b10110001, .subRam_dToX), (0b10110010, .subAc_dToX), (0b10110011, .subIn_dToX),
     (0b10110100, .subD_dToY), (0b10110101, .subRam_dToY), (0b10110110, .subAc_dToY), (0b10110111, .subIn_dToY),
     (0b10111000, .subD_dToOut), (0b10111001, .subRam_dToOut), (0b10111010, .subAc_dToOut), (0b10111011, .subIn_dToOut),
     (0b10111100, .subD_yxIncToOut), (0b10111101, .subRam_yxIncToOut), (0b10111110, .subAc_yxIncToOut), (0b10111111, .subIn_yxIncToOut)] := by
  decide

theorem test_decode_st : decodes
    [(0b11000000, .stD_dToAc), (0b11000001, .stRam_dToAc), (0b11000010, .stAc_dToAc), (0b11000011, .stIn_dToAc),
     (0b11000100, .stD_xToAc), (0b11000101, .stRam_xToAc), (0b11000110, .stAc_xToAc), (0b11000111, .stIn_xToAc),
     (0b11001000, .stD_ydToAc), (0b11001001, .stRam_ydToAc), (0b11001010, .stAc_ydToAc), (0b11001011, .stIn_ydToAc),
     (0b11001100, .stD_yxToAc), (0b11001101, .stRam_yxToAc), (0b11001110, .stAc_yxToAc), (0b11001111, .stIn_yxToAc),
     (0b11010000, .stD_dToX), (0b11010001, .stRam_dToX), (0b11010010, .stAc_dToX), (0b11010011, .stIn_dToX),
     (0b11010100, .stD_dToY), (0b11010101, .stRam_dToY), (0b11010110, .stAc_dToY), (0b11010111, .stIn_dToY),
     (0b11011000, .stD_dToOut), (0b11011001, .stRam_dToOut), (0b11011010, .stAc_dToOut), (0b11011011, .stIn_dToOut),
     (0b11011100, .stD_yxIncToOut), (0b11011101, .stRam_yxIncToOut), (0b11011110, .stAc_yxIncToOut), (0b11011111, .stIn_yxIncToOut)] := by
  decide

theorem test_decode_jump : decodes
    [(0b11100000, .jmpD), (0b11100001, .jmpRam), (0b11100010, .jmpAc), (0b11100011, .jmpIn),
     (0b11100100, .bgtD), (0b11100101, .bgtRam), (0b11100110, .bgtAc), (0b11100111, .bgtIn),
     (0b11101000, .bltD), (0b11101001, .bltRam), (0b11101010, .bltAc), (0b11101011, .bltIn),
     (0b11101100, .bneD), (0b11101101, .bneRam), (0b11101110, .bneAc), (0b11101111, .bneIn),
     (0b11110000, .beqD), (0b11110001, .beqRam), (0b11110010, .beqAc), (0b11110011, .beqIn),
     (0b11110100, .bgeD), (0b11110101, .bgeRam), (0b11110110, .bgeAc), (0b11110111, .bgeIn),
     (0b11111000, .bleD), (0b11111001, .bleRam), (0b11111010, .bleAc), (0b11111011, .bleIn),
     (0b11111100, .braD), (0b11111101, .braRam), (0b11111110, .braAc), (0b11111111, .braIn)] := by
  decide

/-- A string shorter than a word is rejected (R80). -/
theorem test_decode_truncated : decode [] = .rejected .truncated ∧ decode [0x00] = .rejected .truncated := by decide

/-- The table's bits 15:8 are the opcode byte and 7:0 the data byte (R94). -/
theorem test_table_word :
    decodeTableWord 16 0x1D07 = some .ldRam_yxIncToOut ∧ decodeTableWord 16 0xFFFF = some .braIn ∧
    decodeTableWord 24 0x1D07 = none := by decide

/-- The word placed for the next step is in (IR, D), which is what that step executes (R35). -/
theorem test_fetch_word :
    (State.reset.withFetchWord 16 0x8002).regs.ir = 0x80 ∧ (State.reset.withFetchWord 16 0x8002).regs.d = 0x02 ∧
    (State.reset.withFetchWord 16 0x8002).regs.pc = 0x0000 := by decide

/-! ### Cycles: the vectors of 95_test_vectors.md, part 2 -/

/-- A machine with the given registers, RAM and input byte, and 0xE7 on the floating bus. -/
def cpu (ir d : Byte) (pc : Addr) (ac x y out : Byte) (ram : Memory := []) (inp : Byte := 0xFF) : State :=
  { State.reset with regs := ⟨pc, ir, d, ac, x, y, out, 0xE7⟩, ram := ram, inputs := [inp] }

/-- The state after one step. -/
def after (s : State) : State :=
  match step s with
  | .next t => t
  | .fault _ => s
  | .refused _ => s

/-- The RAM after a cycle agrees with its memory event. -/
def ramAgrees (m : Memory) : MemEvent → Bool
  | .none => true
  | .read a v => ramRead m a == v
  | .write a _ v => ramRead m a == v

/-- One step gives these registers and this memory event, and RAM agrees with it. -/
def shows (s : State) (pc : Addr) (ac x y out : Byte) (e : MemEvent) : Bool :=
  ((after s).regs.pc, (after s).regs.ac, (after s).regs.x, (after s).regs.y, (after s).regs.out) == (pc, ac, x, y, out) &&
    (after s).effect.map CycleEffect.mem == some e && ramAgrees (after s).ram e

/-- V1 to V5: LD from the data byte and from RAM, by each way to an address; V4 and V5 alias in bit 15. -/
theorem test_ld_modes :
    shows (cpu 0x00 0x42 0x0205 0x99 0x00 0x00 0x00 [] 0xFF) 0x0206 0x42 0x00 0x00 0x00 (.none) ∧
    shows (cpu 0x01 0x42 0x0205 0x99 0x00 0x00 0x00 [(0x42, 0x17)] 0xFF) 0x0206 0x17 0x00 0x00 0x00 (.read 0x0042 0x17) ∧
    shows (cpu 0x05 0x42 0x0205 0x99 0x80 0x00 0x00 [(0x42, 0x17), (0x80, 0x18)] 0xFF) 0x0206 0x18 0x80 0x00 0x00 (.read 0x0080 0x18) ∧
    shows (cpu 0x09 0x42 0x0205 0x99 0x80 0x81 0x00 [(0x42, 0x17), (0x142, 0x19)] 0xFF) 0x0206 0x19 0x80 0x81 0x00 (.read 0x0142 0x19) ∧
    shows (cpu 0x0D 0x42 0x0205 0x99 0x80 0xFF 0x00 [(0x7f80, 0x1A)] 0xFF) 0x0206 0x1A 0x80 0xFF 0x00 (.read 0x7F80 0x1A) := by
  decide

/-- V6 to V11: LD into X, Y and OUT, the wrap of X in mode 7, the no-op. -/
theorem test_ld_destinations :
    shows (cpu 0x12 0x42 0x0205 0x99 0x01 0x02 0x00 [] 0xFF) 0x0206 0x99 0x99 0x02 0x00 (.none) ∧
    shows (cpu 0x17 0x42 0x0205 0x99 0x01 0x02 0x00 [] 0xEF) 0x0206 0x99 0x01 0xEF 0x00 (.none) ∧
    shows (cpu 0x18 0xC0 0x0205 0x99 0x00 0x00 0x3F [] 0xFF) 0x0206 0x99 0x00 0x00 0xC0 (.none) ∧
    shows (cpu 0x1D 0x00 0x0205 0x99 0xFF 0x08 0x00 [(0x8ff, 0x2A)] 0xFF) 0x0206 0x99 0x00 0x08 0x2A (.read 0x08FF 0x2A) ∧
    shows (cpu 0x1C 0x3F 0x0205 0x99 0x10 0x08 0x00 [] 0xFF) 0x0206 0x99 0x11 0x08 0x3F (.none) ∧
    shows (cpu 0x02 0x00 0x0205 0x99 0x01 0x02 0x03 [] 0xFF) 0x0206 0x99 0x01 0x02 0x03 (.none) := by
  decide

/-- V12 to V14. -/
theorem test_and :
    shows (cpu 0x20 0x0F 0x0205 0xFC 0x00 0x00 0x00 [] 0xFF) 0x0206 0x0C 0x00 0x00 0x00 (.none) ∧
    shows (cpu 0x30 0x0F 0x0205 0xFC 0x77 0x00 0x00 [] 0xFF) 0x0206 0xFC 0x0C 0x00 0x00 (.none) ∧
    shows (cpu 0x22 0x00 0x0205 0xA5 0x00 0x00 0x00 [] 0xFF) 0x0206 0xA5 0x00 0x00 0x00 (.none) := by
  decide

/-- V15 to V17. -/
theorem test_or :
    shows (cpu 0x40 0x80 0x0205 0x0C 0x00 0x00 0x00 [] 0xFF) 0x0206 0x8C 0x00 0x00 0x00 (.none) ∧
    shows (cpu 0x54 0x80 0x0205 0x0C 0x00 0x22 0x00 [] 0xFF) 0x0206 0x0C 0x00 0x8C 0x00 (.none) ∧
    shows (cpu 0x40 0xFF 0x0205 0x0C 0x00 0x00 0x00 [] 0xFF) 0x0206 0xFF 0x00 0x00 0x00 (.none) := by
  decide

/-- V18 to V20. -/
theorem test_xor :
    shows (cpu 0x60 0xFF 0x0205 0xA5 0x00 0x00 0x00 [] 0xFF) 0x0206 0x5A 0x00 0x00 0x00 (.none) ∧
    shows (cpu 0x62 0x00 0x0205 0xA5 0x00 0x00 0x00 [] 0xFF) 0x0206 0x00 0x00 0x00 0x00 (.none) ∧
    shows (cpu 0x61 0x30 0x0205 0xFF 0x00 0x00 0x00 [(0x30, 0x03)] 0xFF) 0x0206 0xFC 0x00 0x00 0x00 (.read 0x0030 0x03) := by
  decide

/-- V21 (the source's example S3) to V25: sums wrap; the left operand is AC. -/
theorem test_add :
    shows (cpu 0x80 0x02 0x0205 0xFF 0x00 0x00 0x00 [] 0xFF) 0x0206 0x01 0x00 0x00 0x00 (.none) ∧
    shows (cpu 0x80 0x01 0x0205 0x7F 0x00 0x00 0x00 [] 0xFF) 0x0206 0x80 0x00 0x00 0x00 (.none) ∧
    shows (cpu 0x82 0x00 0x0205 0x81 0x00 0x00 0x00 [] 0xFF) 0x0206 0x02 0x00 0x00 0x00 (.none) ∧
    shows (cpu 0x90 0x01 0x0205 0x10 0x50 0x00 0x00 [] 0xFF) 0x0206 0x10 0x11 0x00 0x00 (.none) ∧
    shows (cpu 0x80 0x00 0x0205 0x00 0x00 0x00 0x00 [] 0xFF) 0x0206 0x00 0x00 0x00 0x00 (.none) := by
  decide

/-- V26 to V30: differences wrap. -/
theorem test_sub :
    shows (cpu 0xA0 0x01 0x0205 0x00 0x00 0x00 0x00 [] 0xFF) 0x0206 0xFF 0x00 0x00 0x00 (.none) ∧
    shows (cpu 0xA0 0x01 0x0205 0x80 0x00 0x00 0x00 [] 0xFF) 0x0206 0x7F 0x00 0x00 0x00 (.none) ∧
    shows (cpu 0xA2 0x00 0x0205 0x5A 0x00 0x00 0x00 [] 0xFF) 0x0206 0x00 0x00 0x00 0x00 (.none) ∧
    shows (cpu 0xA0 0x04 0x0205 0x03 0x00 0x00 0x00 [] 0xFF) 0x0206 0xFF 0x00 0x00 0x00 (.none) ∧
    shows (cpu 0xB8 0x01 0x0205 0x40 0x00 0x00 0x11 [] 0xFF) 0x0206 0x40 0x00 0x00 0x3F (.none) := by
  decide

/-- V31 (the source's example S4) to V37: ST with X and Y as destinations, and each way to an address. -/
theorem test_st_destinations :
    shows (cpu 0xD2 0x10 0x0205 0x7A 0x01 0x00 0x00 [] 0xFF) 0x0206 0x7A 0x7A 0x00 0x00 (.write 0x0010 0x00 0x7A) ∧
    shows (cpu 0xD0 0x10 0x0205 0x7A 0x01 0x00 0x00 [] 0xFF) 0x0206 0x7A 0x7A 0x00 0x00 (.write 0x0010 0x00 0x10) ∧
    shows (cpu 0xD6 0x10 0x0205 0x7A 0x00 0x01 0x00 [] 0xFF) 0x0206 0x7A 0x00 0x7A 0x00 (.write 0x0010 0x00 0x7A) ∧
    shows (cpu 0xC2 0x30 0x0205 0x03 0x00 0x00 0x00 [(0x30, 0xAA)] 0xFF) 0x0206 0x03 0x00 0x00 0x00 (.write 0x0030 0xAA 0x03) ∧
    shows (cpu 0xC6 0x30 0x0205 0x03 0x31 0x00 0x00 [(0x30, 0xAA), (0x31, 0xBB)] 0xFF) 0x0206 0x03 0x31 0x00 0x00 (.write 0x0031 0xBB 0x03) ∧
    shows (cpu 0xCA 0x30 0x0205 0x03 0x00 0x81 0x00 [(0x130, 0xCC)] 0xFF) 0x0206 0x03 0x00 0x81 0x00 (.write 0x0130 0xCC 0x03) ∧
    shows (cpu 0xCC 0x5A 0x0205 0x03 0xFE 0x7F 0x00 [(0x7ffe, 0xDD)] 0xFF) 0x0206 0x03 0xFE 0x7F 0x00 (.write 0x7FFE 0xDD 0x5A) := by
  decide

/-- V38 to V42: OUT is not written; the floating bus (V40), the input byte and the data byte are stored. -/
theorem test_st_sources :
    shows (cpu 0xDA 0x30 0x0205 0x03 0x00 0x00 0x44 [(0x30, 0xAA)] 0xFF) 0x0206 0x03 0x00 0x00 0x44 (.write 0x0030 0xAA 0x03) ∧
    shows (cpu 0xDE 0x30 0x0205 0x03 0xFF 0x02 0x44 [] 0xFF) 0x0206 0x03 0x00 0x02 0x44 (.write 0x02FF 0x00 0x03) ∧
    shows (cpu 0xC1 0x30 0x0205 0x03 0x00 0x00 0x00 [(0x30, 0xAA)] 0xFF) 0x0206 0x03 0x00 0x00 0x00 (.write 0x0030 0xAA 0xE7) ∧
    shows (cpu 0xC3 0x30 0x0205 0x03 0x00 0x00 0x00 [(0x30, 0xAA)] 0x7F) 0x0206 0x03 0x00 0x00 0x00 (.write 0x0030 0xAA 0x7F) ∧
    shows (cpu 0xC0 0x30 0x0205 0x03 0x00 0x00 0x00 [(0x30, 0xAA)] 0xFF) 0x0206 0x03 0x00 0x00 0x00 (.write 0x0030 0xAA 0x30) := by
  decide

/-- V43 to V46: JMP with each bus source. -/
theorem test_jmp :
    shows (cpu 0xE0 0x34 0x0205 0x00 0x00 0x12 0x00 [] 0xFF) 0x1234 0x00 0x00 0x12 0x00 (.none) ∧
    shows (cpu 0xE2 0x34 0x0205 0x56 0x00 0x12 0x00 [] 0xFF) 0x1256 0x56 0x00 0x12 0x00 (.none) ∧
    shows (cpu 0xE1 0x34 0x0205 0x56 0x00 0x12 0x00 [(0x34, 0x78)] 0xFF) 0x1278 0x56 0x00 0x12 0x00 (.read 0x0034 0x78) ∧
    shows (cpu 0xE3 0x34 0x0205 0x56 0x00 0x12 0x00 [] 0xFE) 0x12FE 0x56 0x00 0x12 0x00 (.none) := by
  decide

/-- V47 to V51. -/
theorem test_bgt :
    shows (cpu 0xE4 0x40 0x0205 0x00 0x00 0x00 0x00 [] 0xFF) 0x0206 0x00 0x00 0x00 0x00 (.none) ∧
    shows (cpu 0xE4 0x40 0x0205 0x01 0x00 0x00 0x00 [] 0xFF) 0x0240 0x01 0x00 0x00 0x00 (.none) ∧
    shows (cpu 0xE4 0x40 0x0205 0x7F 0x00 0x00 0x00 [] 0xFF) 0x0240 0x7F 0x00 0x00 0x00 (.none) ∧
    shows (cpu 0xE4 0x40 0x0205 0x80 0x00 0x00 0x00 [] 0xFF) 0x0206 0x80 0x00 0x00 0x00 (.none) ∧
    shows (cpu 0xE4 0x40 0x0205 0xFF 0x00 0x00 0x00 [] 0xFF) 0x0206 0xFF 0x00 0x00 0x00 (.none) := by
  decide

/-- V52 to V56. -/
theorem test_blt :
    shows (cpu 0xE8 0x40 0x0205 0x00 0x00 0x00 0x00 [] 0xFF) 0x0206 0x00 0x00 0x00 0x00 (.none) ∧
    shows (cpu 0xE8 0x40 0x0205 0x01 0x00 0x00 0x00 [] 0xFF) 0x0206 0x01 0x00 0x00 0x00 (.none) ∧
    shows (cpu 0xE8 0x40 0x0205 0x7F 0x00 0x00 0x00 [] 0xFF) 0x0206 0x7F 0x00 0x00 0x00 (.none) ∧
    shows (cpu 0xE8 0x40 0x0205 0x80 0x00 0x00 0x00 [] 0xFF) 0x0240 0x80 0x00 0x00 0x00 (.none) ∧
    shows (cpu 0xE8 0x40 0x0205 0xFF 0x00 0x00 0x00 [] 0xFF) 0x0240 0xFF 0x00 0x00 0x00 (.none) := by
  decide

/-- V57 to V61. -/
theorem test_bne :
    shows (cpu 0xEC 0x40 0x0205 0x00 0x00 0x00 0x00 [] 0xFF) 0x0206 0x00 0x00 0x00 0x00 (.none) ∧
    shows (cpu 0xEC 0x40 0x0205 0x01 0x00 0x00 0x00 [] 0xFF) 0x0240 0x01 0x00 0x00 0x00 (.none) ∧
    shows (cpu 0xEC 0x40 0x0205 0x7F 0x00 0x00 0x00 [] 0xFF) 0x0240 0x7F 0x00 0x00 0x00 (.none) ∧
    shows (cpu 0xEC 0x40 0x0205 0x80 0x00 0x00 0x00 [] 0xFF) 0x0240 0x80 0x00 0x00 0x00 (.none) ∧
    shows (cpu 0xEC 0x40 0x0205 0xFF 0x00 0x00 0x00 [] 0xFF) 0x0240 0xFF 0x00 0x00 0x00 (.none) := by
  decide

/-- V62 to V66, with the source's example S5 (V62, V65). -/
theorem test_beq :
    shows (cpu 0xF0 0x40 0x0205 0x00 0x00 0x00 0x00 [] 0xFF) 0x0240 0x00 0x00 0x00 0x00 (.none) ∧
    shows (cpu 0xF0 0x40 0x0205 0x01 0x00 0x00 0x00 [] 0xFF) 0x0206 0x01 0x00 0x00 0x00 (.none) ∧
    shows (cpu 0xF0 0x40 0x0205 0x7F 0x00 0x00 0x00 [] 0xFF) 0x0206 0x7F 0x00 0x00 0x00 (.none) ∧
    shows (cpu 0xF0 0x40 0x0205 0x80 0x00 0x00 0x00 [] 0xFF) 0x0206 0x80 0x00 0x00 0x00 (.none) ∧
    shows (cpu 0xF0 0x40 0x0205 0xFF 0x00 0x00 0x00 [] 0xFF) 0x0206 0xFF 0x00 0x00 0x00 (.none) := by
  decide

/-- V83: a branch not taken still reads RAM. -/
theorem test_beq_reads_ram_untaken :
    shows (cpu 0xF1 0x40 0x0205 0x01 0x00 0x00 0x00 [(0x40, 0x99)] 0xFF) 0x0206 0x01 0x00 0x00 0x00 (.read 0x0040 0x99) := by
  decide

/-- V67 to V71. -/
theorem test_bge :
    shows (cpu 0xF4 0x40 0x0205 0x00 0x00 0x00 0x00 [] 0xFF) 0x0240 0x00 0x00 0x00 0x00 (.none) ∧
    shows (cpu 0xF4 0x40 0x0205 0x01 0x00 0x00 0x00 [] 0xFF) 0x0240 0x01 0x00 0x00 0x00 (.none) ∧
    shows (cpu 0xF4 0x40 0x0205 0x7F 0x00 0x00 0x00 [] 0xFF) 0x0240 0x7F 0x00 0x00 0x00 (.none) ∧
    shows (cpu 0xF4 0x40 0x0205 0x80 0x00 0x00 0x00 [] 0xFF) 0x0206 0x80 0x00 0x00 0x00 (.none) ∧
    shows (cpu 0xF4 0x40 0x0205 0xFF 0x00 0x00 0x00 [] 0xFF) 0x0206 0xFF 0x00 0x00 0x00 (.none) := by
  decide

/-- V72 to V76. -/
theorem test_ble :
    shows (cpu 0xF8 0x40 0x0205 0x00 0x00 0x00 0x00 [] 0xFF) 0x0240 0x00 0x00 0x00 0x00 (.none) ∧
    shows (cpu 0xF8 0x40 0x0205 0x01 0x00 0x00 0x00 [] 0xFF) 0x0206 0x01 0x00 0x00 0x00 (.none) ∧
    shows (cpu 0xF8 0x40 0x0205 0x7F 0x00 0x00 0x00 [] 0xFF) 0x0206 0x7F 0x00 0x00 0x00 (.none) ∧
    shows (cpu 0xF8 0x40 0x0205 0x80 0x00 0x00 0x00 [] 0xFF) 0x0240 0x80 0x00 0x00 0x00 (.none) ∧
    shows (cpu 0xF8 0x40 0x0205 0xFF 0x00 0x00 0x00 [] 0xFF) 0x0240 0xFF 0x00 0x00 0x00 (.none) := by
  decide

/-- V77 to V82 and V84: BRA keeps the page, of 0x1300 too. -/
theorem test_bra :
    shows (cpu 0xFC 0x40 0x0205 0x00 0x00 0x00 0x00 [] 0xFF) 0x0240 0x00 0x00 0x00 0x00 (.none) ∧
    shows (cpu 0xFC 0x40 0x0205 0x01 0x00 0x00 0x00 [] 0xFF) 0x0240 0x01 0x00 0x00 0x00 (.none) ∧
    shows (cpu 0xFC 0x40 0x0205 0x7F 0x00 0x00 0x00 [] 0xFF) 0x0240 0x7F 0x00 0x00 0x00 (.none) ∧
    shows (cpu 0xFC 0x40 0x0205 0x80 0x00 0x00 0x00 [] 0xFF) 0x0240 0x80 0x00 0x00 0x00 (.none) ∧
    shows (cpu 0xFC 0x40 0x0205 0xFF 0x00 0x00 0x00 [] 0xFF) 0x0240 0xFF 0x00 0x00 0x00 (.none) ∧
    shows (cpu 0xFC 0x40 0x1300 0x00 0x00 0x00 0x00 [] 0xFF) 0x1340 0x00 0x00 0x00 0x00 (.none) ∧
    shows (cpu 0xFE 0x40 0x0205 0xC3 0x00 0x00 0x00 [] 0xFF) 0x02C3 0xC3 0x00 0x00 0x00 (.none) := by
  decide

/-- V85 and V86: the PC wraps at 0xFFFF. -/
theorem test_pc_wraps :
    shows (cpu 0x00 0x01 0xFFFF 0x00 0x00 0x00 0x00 [] 0xFF) 0x0000 0x01 0x00 0x00 0x00 (.none) ∧
    shows (cpu 0xE8 0x40 0xFFFF 0x00 0x00 0x00 0x00 [] 0xFF) 0x0000 0x00 0x00 0x00 0x00 (.none) := by
  decide

/-! ### Resets and undoing, part 3 of 95_test_vectors.md -/

/-- Program P6, instance (b): garbage executes first (AC becomes 0x77), ROM word 0 second (AC becomes 0x42). -/
def afterHardReset : State :=
  hardReset ⟨0x00, 0x77, 0x99, 0x01, 0x02, 0x03, 0x5C, [0xAA, 0xBB]⟩
    { State.reset with rom := [⟨0x00, 0x42⟩, ⟨0x02, 0x00⟩, ⟨0x02, 0x00⟩] }

theorem test_hard_reset_lag :
    (after afterHardReset).regs.ac = 0x77 ∧ (after (after afterHardReset)).regs.ac = 0x42 ∧
    (after afterHardReset).regs.ir = 0x00 ∧ (after afterHardReset).regs.d = 0x42 := by decide

/-- Program P5 after `SoftReset()`: word 0 has been latched, AC is kept, and the first cycle adds 1. -/
def p5 : State := { cpu 0x02 0x00 0x1234 0x10 0x00 0x00 0x00 with rom := [⟨0x80, 0x01⟩, ⟨0xC2, 0x60⟩] }

theorem test_soft_reset :
    (softReset p5).regs = ⟨0x0000, 0x80, 0x01, 0x10, 0x00, 0x00, 0x00, 0xE7⟩ ∧
    (after (softReset p5)).regs.ac = 0x11 ∧ (after (softReset p5)).regs.ir = 0x80 ∧
    (after (softReset p5 0x0001)).regs.ac = 0x11 ∧ (after (softReset p5 0x0001)).regs.ir = 0xC2 := by decide

/-- P7, the inverse I4 of the store of P1's fourth cycle: registers, `queued`, and the two bytes exchanged. -/
theorem test_inverse_of_a_store :
    let s := { cpu 0xC2 0x30 0x0003 0x03 0x11 0x22 0x33 [(0x30, 0xAA)] with
      rom := [⟨0x00, 0x05⟩, ⟨0x80, 0xFE⟩, ⟨0xC2, 0x30⟩, ⟨0xA0, 0x04⟩] }
    (after s).effect.map (fun e => (applyEffect e s).2) = some ⟨s.regs, 0x0003, .write 0x0030 0x03 0xAA⟩ := by decide

/-- The draw a host supplies is UNDEF after the cycle (R135, R277), and the next cycle takes the next draw. -/
theorem test_supplied_draw :
    let s := supplyDraw 0xA3 (supplyDraw 0x5C (cpu 0x02 0x00 0x0205 0x99 0x01 0x02 0x03))
    (after s).regs.undef = 0x5C ∧ (after s).draws = [0xA3] ∧ (after (supplyDraw 0xA3 p5)).regs.undef = 0xA3 := by decide

/-! ### The raster timing interpreter, vector T1 -/

/-- The configuration of T1. -/
def t1 : Timing := ⟨⟨4, 4, 4, 8⟩, ⟨1, 1, 1, 2⟩⟩

/-- T1, cycles 2 and 3: the first vertical edge renders, the first horizontal edge is a violation. -/
theorem test_rti_edges :
    rtiStep t1 ⟨0xC0, -1, 4, 0, [], []⟩ 0x40 = ⟨⟨0x40, -1, 8, 0, [], []⟩, true, false⟩ ∧
    rtiStep t1 ⟨0x40, -1, 8, 0, [], []⟩ 0x03 = ⟨⟨0x03, 0, 4, 0, [], []⟩, false, true⟩ := by decide

/-- T1, cycles 13 and 15: a line of 20 columns is no violation, and the first visible cycle paints four pixels. -/
theorem test_rti_paint :
    rtiStep t1 ⟨0x7F, 1, 20, 0, [], []⟩ 0x15 = ⟨⟨0x15, 2, 4, 0, [], []⟩, false, false⟩ ∧
    rtiStep t1 ⟨0x6A, 2, 8, 0, [], []⟩ 0x43 =
      ⟨⟨0x43, 2, 12, 4, [(0, ⟨255, 0, 0⟩), (1, ⟨255, 0, 0⟩), (2, ⟨255, 0, 0⟩), (3, ⟨255, 0, 0⟩)], []⟩, false, false⟩ := by
  decide

/-- T1, cycle 34: the frame is presented and the counters start again. -/
theorem test_rti_present :
    rtiStep t1 ⟨0xC0, 6, 8, 16, [(4, ⟨0, 255, 0⟩)], []⟩ 0x40 =
      ⟨⟨0x40, -1, 12, 0, [(4, ⟨0, 255, 0⟩)], [(4, ⟨0, 255, 0⟩)]⟩, true, false⟩ := by decide

/-- A machine step feeds the new OUT to the RTI (R238): `LD D, [D]>OUT` of a byte whose vertical bit falls. -/
theorem test_step_feeds_the_rti :
    let s := { cpu 0x18 0x40 0x0000 0x00 0x00 0x00 0xC0 with rti := ⟨0xC0, 3, 8, 8, [], []⟩ }
    (after s).render = true ∧ (after s).violation = false ∧ (after s).rti.line = -1 ∧ (after s).rti.prev = 0x40 := by
  decide

/-! ### Witnesses: for every statement with hypotheses, values that meet them -/

/-- `s` has a next state. -/
def goes (s : State) : Bool :=
  match step s with
  | .next _ => true
  | .fault _ => false
  | .refused _ => false

theorem witness_DecodeOfEncodeIsIdentity : Instr.braIn.wellFormed = true ∧ Instr.ldD_dToAc.wellFormed = true := ⟨rfl, rfl⟩

theorem witness_EncodeOfDecodeIsIdentity :
    2 ≤ ([0x00, 0xFF] : List Byte).length ∧ ([0x00] : List Byte).length < 2 ∧ ([] : List Byte).length < 2 := by decide

theorem witness_RomImageIsReadInPairs :
    ([0x00, 0x42] : List Byte).length % 2 = 0 ∧ ([0x00, 0x42] : List Byte).length ≤ 2 * 65536 ∧
    (List.replicate 131072 (0x00 : Byte)).length % 2 = 0 ∧ (List.replicate 131072 (0x00 : Byte)).length ≤ 2 * 65536 ∧
    ([0x00] : List Byte).length % 2 = 1 ∧ 2 * 65536 < (List.replicate 131074 (0x00 : Byte)).length ∧
    ([⟨0x00, 0x42⟩] : List RomWord).length ≤ (0x0001 : Addr).toNat := by
  rw [List.length_replicate, List.length_replicate]; decide

theorem witness_DecodeIsTotalAndOneToOne : decodeOpcode 0xFF = decodeOpcode 0xFF := rfl

theorem witness_ZeroPageModesAndJumps : Mode.dToOut ∈ [Mode.dToAc, .xToAc, .dToY, .dToOut] := by decide

theorem witness_BusSelectsItsSource : { State.reset with inputs := [0x7F, 0x80] }.inputs = 0x7F :: [0x80] := rfl

/-- The ends of the three ranges of AC, and a condition that is no far jump. -/
theorem witness_BranchConditionSelector :
    (1 ≤ (0x01 : Byte).toNat ∧ (0x01 : Byte).toNat ≤ 127) ∧ (1 ≤ (0x7F : Byte).toNat ∧ (0x7F : Byte).toNat ≤ 127) ∧
    128 ≤ (0x80 : Byte).toNat ∧ 128 ≤ (0xFF : Byte).toNat ∧ (0x00 : Byte).toNat = 0 ∧ Cond.bgt ≠ .jmp := by decide

theorem witness_StepRunsTheDecodedInstruction :
    let s := cpu 0x80 0x02 0x0205 0xFF 0x00 0x00 0x00
    decode [s.regs.ir, s.regs.d] = .ok .addD_dToAc s.regs.d [] ∧ Instr.addD_dToAc.wellFormed = true := by decide

/-- P3, cycles 4 and 5: the far jump, and a delay slot that is no jump. -/
theorem witness_DelaySlotOfAFarJump :
    let s := { cpu 0xE0 0xFE 0x0001 0x07 0x00 0x12 0x00 with rom := [⟨0xE0, 0xFE⟩, ⟨0x80, 0x01⟩] }
    s.regs.ir = 0xE0 ∧ goes s = true ∧ goes (after s) = true ∧ operationBits (after s).regs.ir ≠ 7 ∧
    (after s).regs.pc = 0x12FE ∧ (after (after s)).regs.ac = 0x08 ∧ (after (after s)).regs.pc = 0x12FF := by decide

/-- A branch in the last word of a page, taken and not taken (P3: from 0x12FF to 0x1310), and at the last address. -/
theorem witness_BranchPageIsThatOfTheDelaySlot :
    let s := cpu 0xE4 0x10 0x1300 0x08 0x00 0x12 0x00
    let q := cpu 0xE4 0x10 0x1300 0x00 0x00 0x12 0x00
    let w := cpu 0xE4 0x10 0x0000 0x08 0x00 0x12 0x00
    Cond.bgt ≠ .jmp ∧ s.regs.ir = encodeOpcode (jumpInstr .bgt .data) ∧ s.regs.pc = (0x12FF : Addr) + 1 ∧
    branchTaken (condCode .bgt) s.regs.ac = true ∧ (after s).regs.pc = 0x1310 ∧
    q.regs.ir = encodeOpcode (jumpInstr .bgt .data) ∧ q.regs.pc = (0x12FF : Addr) + 1 ∧
    branchTaken (condCode .bgt) q.regs.ac = false ∧ (after q).regs.pc = 0x1301 ∧
    w.regs.pc = (0xFFFF : Addr) + 1 ∧ branchTaken (condCode .bgt) w.regs.ac = true ∧ (after w).regs.pc = 0x0010 := by
  decide

theorem witness_OnlyTakenJumpsLeaveTheSequence :
    operationBits (cpu 0xDF 0x00 0xFFFF 0x00 0x00 0x00 0x00).regs.ir ≠ 7 ∧
    (let s := cpu 0xE4 0x10 0xFFFF 0x80 0x00 0x12 0x00
     operationBits s.regs.ir = 7 ∧ modeBits s.regs.ir ≠ 0 ∧
       (modeBits s.regs.ir).getLsbD (conditionIndex s.regs.ac) = false ∧ (after s).regs.pc = 0x0000) := by decide

theorem witness_NopChangesOnlyTheFetchState : (cpu 0x02 0x5A 0x0205 0x99 0x01 0x02 0x03).regs.ir = 0x02 := rfl

theorem witness_StoreNeverChangesAcOrOut :
    operationBits (cpu 0xC0 0x30 0x0205 0x03 0x00 0x00 0x44).regs.ir = 6 ∧
    operationBits (cpu 0xDF 0x30 0x0205 0x03 0x00 0x00 0x44).regs.ir = 6 := by decide

/-- A store to 0x0030 and a load of 0x0030 into AC; a store to 0x0812 and a load of 0x0812 into OUT. -/
theorem witness_StoredByteIsReadBack :
    let s := { cpu 0xC2 0x30 0x0000 0x5B 0x00 0x00 0x00 with rom := [⟨0x01, 0x30⟩] }
    let q := { cpu 0xCE 0x00 0x0000 0x5B 0x12 0x08 0x00 with rom := [⟨0x1D, 0x00⟩] }
    s.regs.ir = encodeOpcode (stInstr .dToAc .ac) ∧
    (romRead s.rom s.regs.pc).opcode = encodeOpcode (ldInstr .dToAc .ram) ∧
    operandAddress .dToAc (after s).regs = operandAddress .dToAc s.regs ∧ modeDest .dToAc = .ac ∧
    (after (after s)).regs.ac = 0x5B ∧
    q.regs.ir = encodeOpcode (stInstr .yxToAc .ac) ∧
    (romRead q.rom q.regs.pc).opcode = encodeOpcode (ldInstr .yxIncToOut .ram) ∧
    operandAddress .yxIncToOut (after q).regs = operandAddress .yxToAc q.regs ∧ modeDest .yxIncToOut = .out ∧
    (after (after q)).regs.out = 0x5B := by decide

theorem witness_RomAndConfigurationNeverChange :
    ∃ t u, command .clock State.reset = .next t ∧ command (.softReset 0x0001) State.reset = .next u := ⟨_, _, rfl, rfl⟩

/-- A byte changed by a store, by a hard reset, and by applying a write event. -/
theorem witness_OnlyStoreResetAndApplyChangeRam :
    let s := cpu 0xC2 0x30 0x0205 0x03 0x00 0x00 0x00 [(0x30, 0xAA)]
    let w : HardResetDraw := ⟨0, 0, 0, 0, 0, 0, 0, [0x11]⟩
    let e : CycleEffect := ⟨s.regs, 0x0204, .write 0x0030 0xAA 0x17⟩
    (∃ t, command .clock s = .next t ∧ ramRead t.ram 0x0030 ≠ ramRead s.ram 0x0030) ∧
    (∃ t, command (.hardReset w) s = .next t ∧ ramRead t.ram 0x0000 ≠ ramRead s.ram 0x0000) ∧
    (∃ t, command (.apply e) s = .next t ∧ ramRead t.ram 0x0030 ≠ ramRead s.ram 0x0030) :=
  ⟨⟨_, rfl, by decide⟩, ⟨_, rfl, by decide⟩, ⟨_, rfl, by decide⟩⟩

/-- A load with bus field Ram, and a store with another bus field. -/
theorem witness_FloatingBusReachesOnlyRamBusStores :
    (let s := cpu 0x01 0x30 0x0205 0x03 0x00 0x00 0x00
     ¬ (operationBits s.regs.ir = 6 ∧ busBits s.regs.ir = 1)) ∧
    (let s := cpu 0xC2 0x30 0x0205 0x03 0x00 0x00 0x00
     ¬ (operationBits s.regs.ir = 6 ∧ busBits s.regs.ir = 1)) := by decide

theorem witness_InputReachesOnlyBusIn : busBits (cpu 0xFE 0x40 0x0205 0xC3 0x00 0x00 0x00).regs.ir ≠ 3 := by decide

theorem witness_RtiNeverInfluencesTheCpu :
    SameCpu State.reset { State.reset with rti := ⟨0xC0, 5, 8, 4, [(0, ⟨255, 0, 0⟩)], []⟩, timing := t1, render := true } :=
  ⟨rfl, rfl, rfl, rfl, rfl, rfl⟩

/-- A store, a load and a jump that read RAM, and an instruction with no event. -/
theorem witness_MemoryEventOfEveryCycle :
    operationBits (cpu 0xDF 0x00 0x0000 0x00 0xFF 0x7F 0x00).regs.ir = 6 ∧
    (let s := cpu 0x1D 0x00 0x0000 0x00 0xFF 0x7F 0x00
     operationBits s.regs.ir ≠ 6 ∧ busBits s.regs.ir = 1 ∧ operationBits s.regs.ir ≠ 7) ∧
    (let s := cpu 0xF1 0x40 0x0000 0x01 0x00 0x00 0x00
     operationBits s.regs.ir ≠ 6 ∧ busBits s.regs.ir = 1 ∧ operationBits s.regs.ir = 7) ∧
    (let s := cpu 0x1C 0x00 0x0000 0x00 0xFF 0x7F 0x00
     operationBits s.regs.ir ≠ 6 ∧ busBits s.regs.ir ≠ 1) := by decide

/-- A step whose event is a write, of the previous byte that stood there. -/
theorem witness_AdvanceIsApplyOfTheEffect :
    let s := cpu 0xC2 0x30 0x0205 0x03 0x00 0x00 0x00 [(0x30, 0xAA)]
    (after s).effect.map CycleEffect.mem = some (.write 0x0030 0xAA 0x03) ∧ ramRead s.ram 0x0030 = 0xAA := by decide

/-- A write event that fits a canonical RAM, at its last address, and an effect with no write. -/
theorem witness_ApplyThenInverseRestores :
    let s := cpu 0xC2 0x30 0x0205 0x03 0x00 0x00 0x00 [(0x30, 0xAA), (0x7FFF, 0x01)]
    let e : CycleEffect := ⟨State.reset.regs, 0x0204, .write 0x7FFF 0x01 0x00⟩
    let q : CycleEffect := ⟨State.reset.regs, 0x0204, .none⟩
    Memory.wf s.ram ∧ (∀ a p n, e.mem = .write a p n → p = ramRead s.ram a) ∧
    (∀ a p n, q.mem = .write a p n → p = ramRead s.ram a) := by
  refine ⟨by decide, ?_, ?_⟩
  · intro a p n h; cases h; decide
  · intro a p n h; cases h

theorem witness_UndoRestoresAnySequence :
    Memory.wf (cpu 0xC2 0x30 0x0205 0x03 0x00 0x00 0x00 [(0x30, 0xAA), (0x31, 0xBB)]).ram := by decide

/-- A state with RAM, an image, a painted frame and moved counters has the invariant, and steps. -/
theorem witness_StepKeepsTheInvariant :
    let s : State :=
      { cpu 0xC2 0x30 0x0000 0x03 0x00 0x00 0x00 [(0x30, 0xAA), (0x7FFF, 0xBB)] with
        rom := [⟨0x00, 0x42⟩], timing := t1
        rti := ⟨0x43, 2, 12, 4, [(0, ⟨255, 0, 0⟩), (15, ⟨255, 0, 0⟩)], []⟩ }
    Inv s ∧ ∃ t, step s = .next t :=
  ⟨⟨by decide, by decide, by decide, by decide, by decide, by decide, by decide⟩, _, rfl⟩

theorem witness_HostCommandsKeepTheInvariant :
    Inv State.reset ∧ ∃ t, command (.hardReset ⟨0, 0, 0, 0, 0, 0, 0, [0x11, 0x22]⟩) State.reset = .next t :=
  ⟨⟨by decide, by decide, by decide, by decide, by decide, by decide, by decide⟩, _, rfl⟩

/-- Two OUT bytes with the colour bits alike, and two without. -/
theorem witness_ColourOfAnOutByte :
    colour 0xC3 = colour 0x03 ∧ (0xC3 : Byte).toNat % 64 = (0x03 : Byte).toNat % 64 ∧ colour 0x3F = ⟨255, 255, 255⟩ ∧
    colour 0x2A ≠ colour 0x15 := by decide

theorem witness_FallingEdgesOfTheSyncBits :
    verticalFall 0x80 0x7F = true ∧ verticalFall 0x7F 0x80 = false ∧ horizontalFall 0x40 0xBF = true ∧
    horizontalFall 0xFF 0xFF = false := by decide

/-- A step that renders and one with a violation. -/
theorem witness_RenderAndViolationOfACycle :
    let s := { cpu 0x18 0x40 0x0000 0x00 0x00 0x00 0xC0 with rti := ⟨0xC0, 3, 8, 8, [], []⟩ }
    let q := { cpu 0x18 0x80 0x0000 0x00 0x00 0x00 0xC0 with rti := ⟨0xC0, 3, 8, 8, [], []⟩ }
    (after s).render = true ∧ (after s).violation = false ∧ (after q).render = false ∧ (after q).violation = true := by
  decide

/-- A vertical edge alone, and one together with a horizontal edge. -/
theorem witness_VerticalEdgePresentsTheFrame :
    (verticalFall 0xC0 0x40 = true ∧ horizontalFall 0xC0 0x40 = false) ∧
    (verticalFall 0xC0 0x3F = true ∧ horizontalFall 0xC0 0x3F = true) := by decide

theorem witness_HorizontalEdgeStartsALine :
    (verticalFall 0xC0 0x80 = false ∧ horizontalFall 0xC0 0x80 = true) ∧
    (verticalFall 0x40 0x7F = false ∧ horizontalFall 0x40 0x7F = false) := by decide

/-- First and last painting cycle of a frame of T1, and the cycles just outside the window, by line and by column. -/
theorem witness_PaintingOfACycle :
    (rtiStep t1 ⟨0x6A, 2, 8, 0, [], []⟩ 0x43).rti.cursor = 4 ∧ (rtiStep t1 ⟨0x6A, 3, 12, 12, [], []⟩ 0x43).rti.cursor = 16 ∧
    (rtiStep t1 ⟨0x6A, 2, 4, 0, [], []⟩ 0x43).rti.cursor = 0 ∧ (rtiStep t1 ⟨0x6A, 3, 16, 16, [], []⟩ 0x43).rti.cursor = 16 ∧
    (rtiStep t1 ⟨0x6A, 1, 8, 0, [], []⟩ 0x43).rti.cursor = 0 ∧ (rtiStep t1 ⟨0x6A, 4, 8, 16, [], []⟩ 0x43).rti.cursor = 16 := by
  decide

/-- A line of 20 columns (five cycles) and a line of 16, each between two horizontal edges: T1, cycles 13 to 18 and 28
to 32. -/
theorem witness_LineLengthDecidesTheViolation :
    horizontalFall 0x7F 0x15 = true ∧ (∀ e ∈ edgesOf 0x15 [0x6A, 0x43, 0x4C, 0x70], e.2 = false) ∧
    horizontalFall 0x70 0x3F = true ∧ 4 * ([0x6A, 0x43, 0x4C, 0x70].length + 1) = hTotal t1 ∧
    horizontalFall 0x43 0x80 = true ∧ (∀ e ∈ edgesOf 0x80 [0xC0, 0xC0, 0xC0], e.2 = false) ∧
    horizontalFall 0xC0 0x80 = true ∧ 4 * ([0xC0, 0xC0, 0xC0].length + 1) ≠ hTotal t1 := by decide

/-- T1, cycles 2 to 22: one vertical edge, then four lines of five cycles. -/
theorem witness_OneFrameFillsTheFramebuffer :
    let lines : List (List Byte) :=
      [[0x03, 0x4C, 0x70, 0x7F, 0x55], [0x2A, 0x43, 0x4C, 0x70, 0x7F], [0x15, 0x6A, 0x43, 0x4C, 0x70],
       [0x3F, 0x55, 0x6A, 0x43, 0x4C]]
    0 < hTotal t1 ∧ 4 ∣ hTotal t1 ∧ 4 ∣ windowStart t1.h ∧ 4 ∣ t1.h.visible ∧
    (∀ l ∈ lines, l.length = hTotal t1 / 4) ∧ lines.length = windowEnd t1.v ∧
    edgesOf 0xC0 (0x40 :: lines.flatten) = (true, false) :: lines.flatMap lineEdges := by decide

theorem witness_ConstructionLoadsAndResets :
    imageOk [0x00, 0x42, 0x02, 0x00] = true ∧ imageOk [] = true ∧ imageOk [0x00] = false := by decide

/-- No draw waiting, and two waiting. -/
theorem witness_UndefTakesTheSuppliedDraw :
    State.reset.draws = [] ∧ { State.reset with draws := [0x5C, 0xA3] }.draws = 0x5C :: [0xA3] := ⟨rfl, rfl⟩

theorem witness_RomWordZeroExecutesSecondAfterHardReset :
    romRead afterHardReset.rom 0x0000 = ⟨0x00, 0x42⟩ := by decide

end Sys2Proof.Tests
end

/-! SUPPORT. The statements of 20_memory.md: the ROM image, the masking of addresses, what can change a RAM byte, a
stored byte read back, and the invariant kept by a step. The lemmas first, in the order of the definitions they speak
of, then the statements. -/

namespace Sys2Proof

/-! ### The ROM image (R66) -/

theorem imageWords_length (image : List Byte) : (imageWords image).length = image.length / 2 := by
  induction image using imageWords.induct with
  | case1 o d rest ih => simp only [imageWords, List.length_cons, ih]; omega
  | case2 b => simp [imageWords]
  | case3 => rfl

/-- ROM word `k` is the pair of image bytes that starts at `2 * k`. -/
theorem imageWords_pairs (image : List Byte) : ∀ k, k < (imageWords image).length →
    ∃ o d, image[2 * k]? = some o ∧ image[2 * k + 1]? = some d ∧ (imageWords image)[k]? = some ⟨o, d⟩ := by
  induction image using imageWords.induct with
  | case1 o d rest ih =>
    intro k hk
    cases k with
    | zero => exact ⟨o, d, rfl, rfl, rfl⟩
    | succ k => exact ih k (Nat.lt_of_succ_lt_succ hk)
  | case2 b => intro k hk; exact absurd hk (Nat.not_lt_zero k)
  | case3 => intro k hk; exact absurd hk (Nat.not_lt_zero k)

theorem imageOk_iff (image : List Byte) :
    imageOk image = true ↔ image.length % 2 = 0 ∧ image.length ≤ 2 * 65536 := by
  unfold imageOk imageWholePairs imageFits
  rw [Bool.and_eq_true, beq_iff_eq, decide_eq_true_iff]
  rfl

theorem loadImage_of_ok {image : List Byte} (h : imageOk image = true) :
    loadImage image = some (imageWords image) := if_pos h

theorem loadImage_of_not_ok {image : List Byte} (h : ¬ imageOk image = true) : loadImage image = none := if_neg h

/-! ### Opcode bytes and their fields (R81, R92) -/

theorem operationOf_operationCode (op : Operation) : operationOf (operationCode op) = op := by cases op <;> rfl

theorem busOf_busCode (b : Bus) : busOf (busCode b) = b := by cases b <;> rfl

/-- The operation field of a byte is `store` exactly when it is 6 (R82). -/
theorem operationOf_eq_store_iff (v : BitVec 3) : operationOf v = .store ↔ v = 6 := by revert v; decide

/-- The three fields of an assembled opcode byte do not overlap (R92). -/
theorem bits_opcodeOfFields (f : Fields) :
    operationBits (opcodeOfFields f) = operationCode f.op ∧ modeBits (opcodeOfFields f) = f.mode ∧
      busBits (opcodeOfFields f) = busCode f.bus := by
  unfold opcodeOfFields operationBits modeBits busBits
  generalize operationCode f.op = o, f.mode = m, busCode f.bus = b
  revert o m b
  decide

theorem instrOfFields_fieldsOf (i : Instr) :
    instrOfFields (fieldsOf i).op (fieldsOf i).mode (fieldsOf i).bus = i := by
  cases i <;> rfl

/-- The decoder reads an encoded instruction back (R92). -/
theorem decodeOpcode_encodeOpcode (i : Instr) : decodeOpcode (encodeOpcode i) = i := by
  obtain ⟨hop, hmode, hbus⟩ := bits_opcodeOfFields (fieldsOf i)
  unfold decodeOpcode encodeOpcode
  rw [hop, hmode, hbus, operationOf_operationCode, busOf_busCode, instrOfFields_fieldsOf]

end Sys2Proof

namespace Sys2Proof.Machine

/-! ### ROM and RAM -/

/-- A word past the image is `ROM_FILL` (R66). -/
theorem romRead_past_image {rom : List RomWord} {a : Addr} (h : rom.length ≤ a.toNat) :
    romRead rom a = Config.romFill a := by
  simp [romRead, List.getElem?_eq_none h]

/-- The RAM index is the address modulo the size of RAM (R52). -/
theorem ramIndex_toNat (a : Addr) : (ramIndex a).toNat = a.toNat % 32768 := by
  simp [ramIndex, BitVec.toNat_setWidth]

theorem ramIndex_eq_mask (a : Addr) : (ramIndex a).toNat = (a &&& 0x7FFF).toNat := by
  rw [ramIndex_toNat, BitVec.toNat_and]
  exact (Nat.and_two_pow_sub_one_eq_mod a.toNat 15).symm

/-- Bit 15 of an address does not reach the RAM index (R53). -/
theorem ramIndex_xor_bit15 (a : Addr) : ramIndex (a ^^^ 0x8000) = ramIndex a := by
  simp [ramIndex, BitVec.setWidth_xor]

/-- Bit 7 of the high byte is bit 15 of the address (R54). -/
theorem xor_bit7_append (hi lo : Byte) : (hi ^^^ 0x80) ++ lo = (hi ++ lo : Addr) ^^^ 0x8000 := by
  simpa using (BitVec.xor_append (x₁ := hi) (x₂ := 0x80) (y₁ := lo) (y₂ := 0)).symm

theorem operandAddress_toNat (m : Mode) (r : Regs) :
    (operandAddress m r).toNat = (256 * (modeHi m r).toNat + (modeLo m r).toNat) % 32768 := by
  unfold operandAddress
  rw [ramIndex_toNat, BitVec.toNat_append, ← Nat.shiftLeft_add_eq_or_of_lt (modeLo m r).isLt, Nat.shiftLeft_eq,
    Nat.mul_comm]

/-- The modes that take Y as the high byte drop its bit 7 with the mask; the others do not read Y. -/
theorem operandAddress_xor_y_bit7 (m : Mode) (r : Regs) :
    operandAddress m { r with y := r.y ^^^ 0x80 } = operandAddress m r := by
  have hmask (lo : Byte) : ramIndex ((r.y ^^^ 0x80) ++ lo) = ramIndex (r.y ++ lo) := by
    rw [xor_bit7_append, ramIndex_xor_bit15]
  cases m
  case ydToAc => exact hmask r.d
  case yxToAc => exact hmask r.x
  case yxIncToOut => exact hmask r.x
  all_goals rfl

/-! ### What changes a byte of RAM -/

/-- Only a write event at its address changes a byte (R204). -/
theorem applyMem_changes {e : MemEvent} {m : Memory} {k : RamAddr}
    (h : ramRead (applyMem e m) k ≠ ramRead m k) : ∃ p n, e = .write k p n := by
  cases e with
  | none => exact absurd rfl h
  | read a v => exact absurd rfl h
  | write a p n =>
    have hk : k = a := by
      by_contra hne
      exact h (by rw [applyMem, ramRead_write, if_neg hne])
    exact ⟨p, n, by rw [hk]⟩

theorem busEvent_ne_write (b : Bus) (a : RamAddr) (s : State) (k : RamAddr) (p n : Byte) :
    busEvent b a s ≠ .write k p n := by
  cases b <;> simp [busEvent]

/-- What is no store has the event of its bus field, at the address of its shape (R56, R122). -/
theorem fieldsEffect_mem_of_ne_store {op : Operation} (h : op ≠ .store) (mode : BitVec 3) (b : Bus) (s : State) :
    (fieldsEffect op mode b s).mem =
      busEvent b (if op = .jump then jumpAddress s.regs else operandAddress (modeOf mode) s.regs) s := by
  cases op
  case store => exact absurd rfl h
  case jump => cases hc : condOf mode <;> simp only [fieldsEffect, jumpEffect, hc] <;> rfl
  all_goals rfl

/-- A cycle that writes is a store, and it writes at its operand address (R56, R170). -/
theorem cycleEffect_write {s : State} {k : RamAddr} {p n : Byte} (h : (cycleEffect s).mem = .write k p n) :
    operationBits s.regs.ir = 6 ∧ k = operandAddress (modeOf (modeBits s.regs.ir)) s.regs := by
  unfold cycleEffect at h
  by_cases hop : operationOf (operationBits s.regs.ir) = .store
  · rw [hop] at h
    exact ⟨(operationOf_eq_store_iff _).mp hop, (MemEvent.write.inj h).1.symm⟩
  · rw [fieldsEffect_mem_of_ne_store hop] at h
    exact absurd h (busEvent_ne_write _ _ _ _ _ _)

/-! ### A step of a known instruction -/

/-- A step from a state that holds an encoded instruction runs that instruction. -/
theorem step_of_encodeOpcode {s t : State} {i : Instr} (hir : s.regs.ir = encodeOpcode i) (h : exec i s = .next t) :
    step s = .next (endCycle t) := by
  unfold step
  rw [hir, decodeOpcode_encodeOpcode, h]

/-- The state after a store. -/
def afterStore (m : Mode) (b : Bus) (s : State) : State := endCycle (advance (storeEffect m b s) s)

/-- The state after a load with bus field Ram. -/
def afterLoad (n : Mode) (s : State) : State := endCycle (advance (aluEffect .load n .ram s) s)

theorem step_store {m : Mode} {b : Bus} {s : State} (h : s.regs.ir = encodeOpcode (stInstr m b)) :
    step s = .next (afterStore m b s) :=
  step_of_encodeOpcode h (exec_stInstr m b s)

theorem step_load {n : Mode} {s : State} (h : s.regs.ir = encodeOpcode (ldInstr n .ram)) :
    step s = .next (afterLoad n s) :=
  step_of_encodeOpcode h (exec_ldInstr n .ram s)

theorem afterStore_ir (m : Mode) (b : Bus) (s : State) :
    (afterStore m b s).regs.ir = (romRead s.rom s.regs.pc).opcode := rfl

/-- The stored byte stands at the operand address right after the store. -/
theorem afterStore_read (m : Mode) (b : Bus) (s : State) :
    ramRead (afterStore m b s).ram (operandAddress m s.regs) = storeValue b s := by
  simp [afterStore, storeEffect_ram, ramRead_write]

theorem afterLoad_event (n : Mode) (s : State) :
    (afterLoad n s).effect.map CycleEffect.mem =
      some (.read (operandAddress n s.regs) (ramRead s.ram (operandAddress n s.regs))) := rfl

theorem afterLoad_ac {n : Mode} (h : modeDest n = .ac) (s : State) :
    (afterLoad n s).regs.ac = ramRead s.ram (operandAddress n s.regs) := by
  simp [afterLoad, aluEffect, writeBack_ac, h, aluResult, busValue]

theorem afterLoad_out {n : Mode} (h : modeDest n = .out) (s : State) :
    (afterLoad n s).regs.out = ramRead s.ram (operandAddress n s.regs) := by
  simp [afterLoad, aluEffect, writeBack_out, h, aluResult, busValue]

/-! ### The raster timing interpreter keeps its part of the invariant -/

section
variable {t : Timing} {r : Rti}

theorem rtiStep_back_wf (h : Frame.wf (pixelCount t) r.back) (o : Byte) :
    Frame.wf (pixelCount t) (rtiStep t r o).rti.back := by
  have he : Frame.wf (pixelCount t) (edgeActions o r).back := by rw [edgeActions_back]; exact h
  obtain ⟨hpaint, hblank⟩ := rtiStep_paint t r o
  cases hv : visibleAt t (edgeActions o r).line (edgeActions o r).col
  · rw [(hblank hv).2]; exact he
  · rw [(hpaint hv).2]; exact paintPixels_wf _ _ _ _ _ he

theorem rtiStep_front_wf (hback : Frame.wf (pixelCount t) r.back) (hfront : Frame.wf (pixelCount t) r.front)
    (o : Byte) : Frame.wf (pixelCount t) (rtiStep t r o).rti.front := by
  rw [rtiStep_front, edgeActions_front]
  split
  · exact hback
  · exact hfront

theorem rtiStep_line_low (h : -1 ≤ r.line) (o : Byte) : -1 ≤ (rtiStep t r o).rti.line := by
  rw [rtiStep_line, edgeActions_line]
  split <;> split <;> omega

theorem rtiStep_col_whole (h : 4 ∣ r.col) (o : Byte) : 4 ∣ (rtiStep t r o).rti.col := by
  rw [rtiStep_col, edgeActions_col]
  split <;> omega

theorem rtiStep_cursor_whole (h : 4 ∣ r.cursor) (o : Byte) : 4 ∣ (rtiStep t r o).rti.cursor := by
  have he : 4 ∣ (edgeActions o r).cursor := by rw [edgeActions_cursor]; split <;> omega
  obtain ⟨hpaint, hblank⟩ := rtiStep_paint t r o
  cases hv : visibleAt t (edgeActions o r).line (edgeActions o r).col
  · rw [(hblank hv).1]; exact he
  · rw [(hpaint hv).1]; omega

end

/-! ### The two parts of a step keep the invariant -/

/-- The CPU's part touches of the invariant's data the RAM alone. -/
theorem advance_keeps_inv {s : State} (h : Inv s) (e : CycleEffect) : Inv (advance e s) where
  ram_wf := applyMem_wf h.ram_wf e.mem
  rom_fits := h.rom_fits
  back_wf := h.back_wf
  front_wf := h.front_wf
  line_low := h.line_low
  col_whole := h.col_whole
  cursor_whole := h.cursor_whole

/-- The RTI's part touches the RTI alone. -/
theorem endCycle_keeps_inv {s : State} (h : Inv s) : Inv (endCycle s) where
  ram_wf := h.ram_wf
  rom_fits := h.rom_fits
  back_wf := rtiStep_back_wf h.back_wf _
  front_wf := rtiStep_front_wf h.back_wf h.front_wf _
  line_low := rtiStep_line_low h.line_low _
  col_whole := rtiStep_col_whole h.col_whole _
  cursor_whole := rtiStep_cursor_whole h.cursor_whole _

end Sys2Proof.Machine

namespace Sys2Proof.Claims

open Sys2Proof.Machine

/-- Settles O43: a step is the CPU's part, then the RTI's part, and each keeps the invariant. -/
theorem stepKeepsTheInvariant : Obligations.StepKeepsTheInvariant := by
  intro s t hs hstep
  rw [step_eq] at hstep
  cases hstep
  exact endCycle_keeps_inv (advance_keeps_inv hs (cycleEffect s))

/-- Settles O5: the words of an image are its pairs, and the two refusals are the two halves of `imageOk`. -/
theorem romImageIsReadInPairs : Obligations.RomImageIsReadInPairs := by
  refine ⟨fun image heven hfits => ?_, fun image hbad => ?_, fun rom a h => romRead_past_image h⟩
  · refine ⟨imageWords image, loadImage_of_ok ((imageOk_iff image).mpr ⟨heven, hfits⟩), ?_, imageWords_pairs image⟩
    rw [imageWords_length]
    omega
  · refine loadImage_of_not_ok fun hok => ?_
    obtain ⟨heven, hfits⟩ := (imageOk_iff image).mp hok
    omega

/-- Settles O8: the mask drops bit 15, which is bit 7 of the high byte. -/
theorem addressesAliasInBit15 : Obligations.AddressesAliasInBit15 :=
  ⟨fun a => ⟨ramIndex_eq_mask a, ramIndex_xor_bit15 a⟩, operandAddress_xor_y_bit7, operandAddress_toNat⟩

/-- Settles O30: the load reads the RAM that the store left. -/
theorem storedByteIsReadBack : Obligations.StoredByteIsReadBack := by
  intro m n b s hstore hload
  refine ⟨_, _, step_store hstore, step_load hload, fun haddr => ?_⟩
  have hread : ramRead (afterStore m b s).ram (operandAddress n (afterStore m b s).regs) = storeValue b s := by
    rw [haddr]; exact afterStore_read m b s
  refine ⟨?_, fun hac => ?_, fun hout => ?_⟩
  · rw [afterLoad_event, hread, haddr]
  · rw [afterLoad_ac hac, hread]
  · rw [afterLoad_out hout, hread]

/-- Settles O32, by the command: a clock and an applied effect change RAM by their write event alone, a hard reset may
change any byte, and the other commands leave RAM as it is. -/
theorem onlyStoreResetAndApplyChangeRam : Obligations.OnlyStoreResetAndApplyChangeRam := by
  intro c s t k hcmd hne
  cases c with
  | clock =>
    rw [command, step_eq] at hcmd
    cases hcmd
    obtain ⟨p, n, hw⟩ := applyMem_changes hne
    exact .inl ⟨rfl, cycleEffect_write hw⟩
  | supplyInput b => cases hcmd; exact absurd rfl hne
  | supplyDraw u => cases hcmd; exact absurd rfl hne
  | hardReset w => exact .inr (.inl ⟨w, rfl⟩)
  | softReset pc => cases hcmd; exact absurd rfl hne
  | apply e =>
    cases hcmd
    obtain ⟨p, n, hw⟩ := applyMem_changes hne
    exact .inr (.inr ⟨e, p, n, rfl, hw⟩)

/-- Settles O42: every store is empty at reset, and the counters are at their initial values. -/
theorem resetMeetsTheInvariant : Obligations.ResetMeetsTheInvariant where
  ram_wf := reset_memory_wf
  rom_fits := Nat.zero_le _
  back_wf := ⟨List.Pairwise.nil, by simp [State.reset, Rti.initial]⟩
  front_wf := ⟨List.Pairwise.nil, by simp [State.reset, Rti.initial]⟩
  line_low := le_refl (-1)
  col_whole := dvd_zero 4
  cursor_whole := dvd_zero 4

end Sys2Proof.Claims

/-! SUPPORT. The statements of 30_encoding.md: decoding and encoding undo each other, the decoder is the three fields,
the opcode byte that changes only the fetch state, and the sample words. The lemmas first, then the statements. -/

namespace Sys2Proof

/-! ### The fields of an opcode byte (R81 to R85) -/

theorem operationCode_operationOf (v : BitVec 3) : operationCode (operationOf v) = v := by revert v; decide

theorem modeCode_modeOf (v : BitVec 3) : modeCode (modeOf v) = v := by revert v; decide

theorem condCode_condOf (v : BitVec 3) : condCode (condOf v) = v := by revert v; decide

theorem busCode_busOf (v : BitVec 2) : busCode (busOf v) = v := by revert v; decide

theorem operationBits_toNat (v : Byte) : (operationBits v).toNat = v.toNat / 32 := by
  have hv := v.isLt
  rw [operationBits, BitVec.extractLsb'_toNat, Nat.shiftRight_eq_div_pow]
  omega

theorem modeBits_toNat (v : Byte) : (modeBits v).toNat = v.toNat / 4 % 8 := by
  rw [modeBits, BitVec.extractLsb'_toNat, Nat.shiftRight_eq_div_pow]

theorem busBits_toNat (v : Byte) : (busBits v).toNat = v.toNat % 4 := by
  rw [busBits, BitVec.extractLsb'_toNat, Nat.shiftRight_zero]

/-- The three fields hold the whole opcode byte (R81). -/
theorem opcodeByte_ext {v w : Byte} (hop : operationBits v = operationBits w) (hmode : modeBits v = modeBits w)
    (hbus : busBits v = busBits w) : v = w := by
  have hop := congrArg BitVec.toNat hop
  have hmode := congrArg BitVec.toNat hmode
  have hbus := congrArg BitVec.toNat hbus
  rw [operationBits_toNat, operationBits_toNat] at hop
  rw [modeBits_toNat, modeBits_toNat] at hmode
  rw [busBits_toNat, busBits_toNat] at hbus
  exact BitVec.eq_of_toNat_eq (by omega)

/-! ### Decoding, then encoding -/

/-- The row with the given fields has these fields: a jump spells `mode` as a condition, every other operation as an
addressing mode (R89). -/
theorem fieldsOf_instrOfFields (op : Operation) (mode : BitVec 3) (b : Bus) :
    fieldsOf (instrOfFields op mode b) = ⟨op, mode, b⟩ := by
  cases op
  case jump =>
    obtain ⟨c, rfl⟩ : ∃ c, condCode c = mode := ⟨_, condCode_condOf mode⟩
    cases c <;> cases b <;> rfl
  all_goals
    obtain ⟨m, rfl⟩ : ∃ m, modeCode m = mode := ⟨_, modeCode_modeOf mode⟩
    cases m <;> cases b <;> rfl

theorem fieldsOf_decodeOpcode (v : Byte) :
    fieldsOf (decodeOpcode v) = ⟨operationOf (operationBits v), modeBits v, busOf (busBits v)⟩ :=
  fieldsOf_instrOfFields _ _ _

/-- The encoder writes a decoded opcode byte back (R92): the two bytes have the same fields. -/
theorem encodeOpcode_decodeOpcode (v : Byte) : encodeOpcode (decodeOpcode v) = v := by
  obtain ⟨hop, hmode, hbus⟩ := bits_opcodeOfFields (fieldsOf (decodeOpcode v))
  rw [fieldsOf_decodeOpcode] at hop hmode hbus
  rw [encodeOpcode, fieldsOf_decodeOpcode]
  exact opcodeByte_ext (hop.trans (operationCode_operationOf _)) hmode (hbus.trans (busCode_busOf _))

/-! ### Byte strings (R80, R88) -/

theorem decode_word (v d : Byte) (rest : List Byte) : decode (v :: d :: rest) = .ok (decodeOpcode v) d rest := rfl

theorem decode_encodeBytes (i : Instr) (d : Byte) (rest : List Byte) :
    decode (encodeBytes i d ++ rest) = .ok i d rest := by
  have hword : encodeBytes i d ++ rest = encodeOpcode i :: d :: rest := rfl
  rw [hword, decode_word, decodeOpcode_encodeOpcode]

theorem encodeBytes_decodeOpcode (v d : Byte) (rest : List Byte) :
    encodeBytes (decodeOpcode v) d ++ rest = v :: d :: rest :=
  congrArg (· :: d :: rest) (encodeOpcode_decodeOpcode v)

/-- The opcode byte that the matrix of R94 gives to an instruction decodes to it. -/
theorem decode_matrixOpcode {i : Instr} (h : Laws.MatrixOpcode.Statement i) (d : Byte) :
    decode [Laws.matrixOpcode i, d] = .ok i d [] := by
  obtain ⟨-, hopcode⟩ := h
  rw [← hopcode]
  exact decode_encodeBytes i d []

end Sys2Proof

namespace Sys2Proof.Machine

/-! ### The row LD AC, [D]>AC (R91) -/

/-- A step of opcode byte 0x02 is the cycle of LD with AC as source and destination. -/
theorem step_nop {s : State} (h : s.regs.ir = 0x02) :
    step s = .next (endCycle (advance (aluEffect .load .dToAc .ac s) s)) :=
  step_of_encodeOpcode (h.trans Laws.MatrixOpcode.ldAc_dToAc.2.symm) (exec_ldInstr .dToAc .ac s)

/-- Writing AC back to AC leaves the latch alone to change the registers. -/
theorem aluEffect_load_ac_regs (s : State) :
    (aluEffect .load .dToAc .ac s).regs = latch s (s.regs.pc + 1) s.regs := rfl

end Sys2Proof.Machine

namespace Sys2Proof.Claims

open Sys2Proof.Machine Sys2Proof.Laws

/-- Settles O2: the fields of an assembled byte are read back one by one. -/
theorem decodeOfEncodeIsIdentity : Obligations.DecodeOfEncodeIsIdentity :=
  fun i d rest _ => decode_encodeBytes i d rest

/-- Settles O3, by the branches of the decoder: a word and a rest, one byte, no byte. -/
theorem encodeOfDecodeIsIdentity : Obligations.EncodeOfDecodeIsIdentity
  | v :: d :: rest =>
    ⟨fun _ => ⟨decodeOpcode v, d, rest, decode_word v d rest, encodeBytes_decodeOpcode v d rest⟩,
      fun hshort => absurd hshort (by simp)⟩
  | [_] => ⟨fun hlong => absurd hlong (by simp), fun _ => rfl⟩
  | [] => ⟨fun hlong => absurd hlong (by simp), fun _ => rfl⟩

/-- Settles O4: the fields of the decoded row are the bits of the byte, and the encoder is a two-sided inverse. -/
theorem decodeIsTotalAndOneToOne : Obligations.DecodeIsTotalAndOneToOne := by
  refine ⟨fun v => ?_, fun v w h => ?_, fun i => ⟨encodeOpcode i, decodeOpcode_encodeOpcode i⟩,
    fun v d => decode_word v d []⟩
  · rw [fieldsOf_decodeOpcode, operationCode_operationOf, busCode_busOf]
    exact ⟨operationBits_toNat v, modeBits_toNat v, busBits_toNat v⟩
  · rw [← encodeOpcode_decodeOpcode v, h, encodeOpcode_decodeOpcode]

/-- Settles O28: AC is loaded with itself, so the latch is all that changes. -/
theorem nopChangesOnlyTheFetchState : Obligations.NopChangesOnlyTheFetchState :=
  fun s h => ⟨_, step_nop h, aluEffect_keeps_ram .load .dToAc .ac s, aluEffect_load_ac_regs s⟩

/-- Settles O1: each word is the entry of the opcode matrix for its instruction, which decodes to it. -/
theorem sampleWordsDecode : Obligations.SampleWordsDecode :=
  ⟨decode_matrixOpcode MatrixOpcode.ldD_dToAc _, decode_matrixOpcode MatrixOpcode.ldAc_dToAc _,
    decode_matrixOpcode MatrixOpcode.ldRam_yxIncToOut _, decode_matrixOpcode MatrixOpcode.andD_dToAc _,
    decode_matrixOpcode MatrixOpcode.orAc_dToOut _, decode_matrixOpcode MatrixOpcode.xorRam_dToAc _,
    decode_matrixOpcode MatrixOpcode.addD_dToAc _, decode_matrixOpcode MatrixOpcode.subIn_xToAc _,
    decode_matrixOpcode MatrixOpcode.stAc_dToX _, decode_matrixOpcode MatrixOpcode.stIn_yxIncToOut _,
    decode_matrixOpcode MatrixOpcode.jmpD _, decode_matrixOpcode MatrixOpcode.beqD _,
    decode_matrixOpcode MatrixOpcode.braIn _⟩

end Sys2Proof.Claims

/-! SUPPORT. The statements of 40_execution_cycle.md: the cycle by the fields of IR, what a cycle reads and leaves, and
the machine as the spec's two blocks. The lemmas first, then the statements. -/

namespace Sys2Proof

/-! ### The field values that the statements single out (R82, R84, R85) -/

theorem condOf_eq_jmp_iff (v : BitVec 3) : condOf v = .jmp ↔ v = 0 := by revert v; decide

theorem operationOf_eq_jump_iff (v : BitVec 3) : operationOf v = .jump ↔ v = 7 := by revert v; decide

theorem busOf_eq_ram_iff (v : BitVec 2) : busOf v = .ram ↔ v = 1 := by revert v; decide

theorem busOf_eq_input_iff (v : BitVec 2) : busOf v = .input ↔ v = 3 := by revert v; decide

end Sys2Proof

namespace Sys2Proof.Machine

/-! ### Bytes and addresses as numbers -/

theorem add_eq_ofNat (v w : Byte) : v + w = BitVec.ofNat 8 ((v.toNat + w.toNat) % 256) := by
  apply BitVec.eq_of_toNat_eq
  rw [BitVec.toNat_add, BitVec.toNat_ofNat]
  exact (Nat.mod_mod _ _).symm

theorem sub_eq_ofNat (v w : Byte) : v - w = BitVec.ofNat 8 ((v.toNat + 256 - w.toNat) % 256) := by
  have hw := w.isLt
  apply BitVec.eq_of_toNat_eq
  rw [BitVec.toNat_sub, BitVec.toNat_ofNat]
  omega

theorem append_eq_ofNat (hi lo : Byte) : (hi ++ lo : Addr) = BitVec.ofNat 16 (256 * hi.toNat + lo.toNat) := by
  have hhi := hi.isLt
  have hlo := lo.isLt
  apply BitVec.eq_of_toNat_eq
  rw [BitVec.toNat_append, ← Nat.shiftLeft_add_eq_or_of_lt hlo, Nat.shiftLeft_eq, BitVec.toNat_ofNat]
  omega

/-! ### The parts of a cycle, by the fields of IR

One definition per line of R138, and `fieldsEffect_eq` says that every cycle is made of them. -/

/-- The result destination: masked on a store, none on a jump (R113, R122, R123). -/
def fieldsDest (op : Operation) (m : Mode) : Dest :=
  if op = .jump then .none else if op = .store then maskDest (modeDest m) else modeDest m

/-- Whether X is post-incremented (R113, R122). -/
def fieldsIncX (op : Operation) (m : Mode) : Bool := if op = .jump then false else modeIncX m

/-- The RAM index of the cycle (R113, R122). -/
def fieldsAddress (op : Operation) (m : Mode) (r : Regs) : RamAddr :=
  if op = .jump then jumpAddress r else operandAddress m r

/-- The bus value, of a store or of what is none (R125 to R129). -/
def fieldsValue (op : Operation) (b : Bus) (a : RamAddr) (s : State) : Byte :=
  if op = .store then storeValue b s else busValue b a s

/-- The memory event of the cycle whose bus value is `v` (R202). -/
def fieldsEvent (op : Operation) (b : Bus) (a : RamAddr) (v : Byte) (s : State) : MemEvent :=
  if op = .store then .write a (ramRead s.ram a) v else busEvent b a s

/-- The ALU result; a jump has no destination for one (R131). -/
def fieldsAlu (op : Operation) (ac v : Byte) : Byte :=
  match op with
  | .load => aluResult .load ac v
  | .and => aluResult .and ac v
  | .or => aluResult .or ac v
  | .xor => aluResult .xor ac v
  | .add => aluResult .add ac v
  | .sub => aluResult .sub ac v
  | .store => aluResult .store ac v
  | .jump => ac

/-- The next PC (R134, R180, R181). -/
def fieldsPc (op : Operation) (mode : BitVec 3) (v : Byte) (s : State) : Addr :=
  if op = .jump then
    if mode = 0 then s.regs.y ++ v
    else if branchTaken mode s.regs.ac then pageTarget s v else sequentialPc s
  else sequentialPc s

/-- The cycle whose bus value is `v`. -/
def cycleOf (op : Operation) (mode : BitVec 3) (b : Bus) (v : Byte) (s : State) : CycleEffect where
  regs :=
    latch s (fieldsPc op mode v s)
      (writeBack (fieldsDest op (modeOf mode)) (fieldsAlu op s.regs.ac v) (fieldsIncX op (modeOf mode)) s.regs)
  queued := s.regs.pc
  mem := fieldsEvent op b (fieldsAddress op (modeOf mode) s.regs) v s

/-- A jump is the far jump or a branch with its mode field as the mask, as that field is 0 or not. -/
theorem jumpEffect_condOf (mode : BitVec 3) (b : Bus) (s : State) :
    jumpEffect (condOf mode) b s = if mode = 0 then farJumpEffect b s else branchEffect mode b s := by
  by_cases hmode : mode = 0
  · rw [if_pos hmode, (condOf_eq_jmp_iff mode).mpr hmode]
    rfl
  · rw [if_neg hmode, jumpEffect_branch (mt (condOf_eq_jmp_iff mode).mp hmode), condCode_condOf]

/-- Every cycle, in one equation. -/
theorem fieldsEffect_eq (op : Operation) (mode : BitVec 3) (b : Bus) (s : State) :
    fieldsEffect op mode b s =
      cycleOf op mode b (fieldsValue op b (fieldsAddress op (modeOf mode) s.regs) s) s := by
  cases op
  case jump =>
    rw [fieldsEffect, jumpEffect_condOf, cycleOf, fieldsPc, if_pos rfl]
    by_cases hmode : mode = 0
    · rw [if_pos hmode, if_pos hmode]
      rfl
    · rw [if_neg hmode, if_neg hmode]
      rfl
  all_goals rfl

theorem exec_decodeOpcode (s : State) : exec (decodeOpcode s.regs.ir) s = .next (advance (cycleEffect s) s) :=
  exec_instrOfFields _ _ _ s

theorem exec_eq (i : Instr) (s : State) :
    exec i s = .next (advance (fieldsEffect (fieldsOf i).op (fieldsOf i).mode (fieldsOf i).bus s) s) := by
  rw [← exec_instrOfFields, instrOfFields_fieldsOf]

/-! ### The registers after a cycle (R132 to R134) -/

section
variable (op : Operation) (mode : BitVec 3) (b : Bus) (v : Byte) (s : State)

theorem cycleOf_pc : (cycleOf op mode b v s).regs.pc = fieldsPc op mode v s := rfl

theorem cycleOf_ac :
    (cycleOf op mode b v s).regs.ac =
      if fieldsDest op (modeOf mode) = .ac then fieldsAlu op s.regs.ac v else s.regs.ac :=
  writeBack_ac _ _ _ _

theorem cycleOf_x :
    (cycleOf op mode b v s).regs.x =
      if fieldsIncX op (modeOf mode) then s.regs.x + 1
      else if fieldsDest op (modeOf mode) = .x then fieldsAlu op s.regs.ac v else s.regs.x :=
  writeBack_x _ _ _ _

theorem cycleOf_y :
    (cycleOf op mode b v s).regs.y =
      if fieldsDest op (modeOf mode) = .y then fieldsAlu op s.regs.ac v else s.regs.y :=
  writeBack_y _ _ _ _

theorem cycleOf_out :
    (cycleOf op mode b v s).regs.out =
      if fieldsDest op (modeOf mode) = .out then fieldsAlu op s.regs.ac v else s.regs.out :=
  writeBack_out _ _ _ _

end

theorem fieldsPc_of_not_jump {op : Operation} (h : op ≠ .jump) (mode : BitVec 3) (v : Byte) (s : State) :
    fieldsPc op mode v s = sequentialPc s := if_neg h

theorem fieldsPc_of_not_taken {mode : BitVec 3} {s : State} (hmode : mode ≠ 0)
    (h : branchTaken mode s.regs.ac = false) (op : Operation) (v : Byte) :
    fieldsPc op mode v s = sequentialPc s := by
  rw [fieldsPc, if_neg hmode, h]
  exact ite_self _

theorem sequentialPc_toNat (s : State) : (sequentialPc s).toNat = (s.regs.pc.toNat + 1) % 65536 :=
  BitVec.toNat_add s.regs.pc 1

theorem fieldsIncX_eq_decide (op : Operation) (m : Mode) :
    fieldsIncX op m = decide (op ≠ .jump ∧ m = .yxIncToOut) := by
  cases op <;> cases m <;> rfl

/-! ### The zero page (D3, D4) -/

theorem operandAddress_of_zero_high {m : Mode} {r : Regs} (h : modeHi m r = 0x00) :
    (operandAddress m r).toNat = (modeLo m r).toNat := by
  have hlo := (modeLo m r).isLt
  have hzero : (0x00 : Byte).toNat = 0 := rfl
  rw [operandAddress_toNat, h, hzero]
  omega

theorem jumpAddress_eq_operandAddress (r : Regs) : jumpAddress r = operandAddress .dToAc r := rfl

/-! ### What a cycle reads of UNDEF, the input byte and OUT (R137)

Each of the three reaches a cycle through the bus value alone, or not at all. -/

/-- The same state with another UNDEF. -/
abbrev setUndef (s : State) (w : Byte) : State := { s with regs := { s.regs with undef := w } }

/-- The same state with another input byte for the coming cycle. -/
abbrev setInput (s : State) (w : Byte) : State := { s with inputs := w :: s.inputs.tail }

/-- The same state with another OUT. -/
abbrev setOut (s : State) (w : Byte) : State := { s with regs := { s.regs with out := w } }

theorem fieldsValue_setUndef {op : Operation} {b : Bus} (h : ¬ (op = .store ∧ b = .ram)) (a : RamAddr) (s : State)
    (w : Byte) : fieldsValue op b a (setUndef s w) = fieldsValue op b a s := by
  by_cases hop : op = .store
  · rw [fieldsValue, fieldsValue, if_pos hop, if_pos hop]
    cases b
    case ram => exact absurd ⟨hop, rfl⟩ h
    all_goals rfl
  · rw [fieldsValue, fieldsValue, if_neg hop, if_neg hop]
    cases b <;> rfl

theorem fieldsValue_setInput {b : Bus} (h : b ≠ .input) (op : Operation) (a : RamAddr) (s : State) (w : Byte) :
    fieldsValue op b a (setInput s w) = fieldsValue op b a s := by
  cases b
  case input => exact absurd rfl h
  all_goals rfl

theorem fieldsValue_setOut (op : Operation) (b : Bus) (a : RamAddr) (s : State) (w : Byte) :
    fieldsValue op b a (setOut s w) = fieldsValue op b a s := by
  cases b <;> rfl

/-- Write-back carries UNDEF along, and the latch replaces it. -/
theorem latch_writeBack_setUndef (t : Dest) (alu : Byte) (i : Bool) (p : Addr) (s : State) (w : Byte) :
    latch (setUndef s w) p (writeBack t alu i (setUndef s w).regs) = latch s p (writeBack t alu i s.regs) := by
  cases t <;> cases i <;> rfl

theorem latch_writeBack_setOut (t : Dest) (alu : Byte) (i : Bool) (p : Addr) (s : State) (w : Byte) :
    { latch (setOut s w) p (writeBack t alu i (setOut s w).regs) with out := 0 } =
      { latch s p (writeBack t alu i s.regs) with out := 0 } := by
  cases t <;> cases i <;> rfl

theorem cycleOf_setUndef (op : Operation) (mode : BitVec 3) (b : Bus) (v : Byte) (s : State) (w : Byte) :
    cycleOf op mode b v (setUndef s w) = cycleOf op mode b v s :=
  congrArg (CycleEffect.mk · s.regs.pc (cycleOf op mode b v s).mem) (latch_writeBack_setUndef _ _ _ _ s w)

theorem fieldsEffect_setUndef {op : Operation} {b : Bus} (h : ¬ (op = .store ∧ b = .ram)) (mode : BitVec 3)
    (s : State) (w : Byte) : fieldsEffect op mode b (setUndef s w) = fieldsEffect op mode b s := by
  rw [fieldsEffect_eq, fieldsEffect_eq, cycleOf_setUndef, fieldsValue_setUndef h]
  rfl

theorem fieldsEffect_setInput {b : Bus} (h : b ≠ .input) (op : Operation) (mode : BitVec 3) (s : State) (w : Byte) :
    fieldsEffect op mode b (setInput s w) = fieldsEffect op mode b s := by
  rw [fieldsEffect_eq, fieldsEffect_eq, fieldsValue_setInput h]
  rfl

theorem fieldsEffect_setOut (op : Operation) (mode : BitVec 3) (b : Bus) (s : State) (w : Byte) :
    fieldsEffect op mode b (setOut s w) =
      cycleOf op mode b (fieldsValue op b (fieldsAddress op (modeOf mode) s.regs) s) (setOut s w) := by
  rw [fieldsEffect_eq, fieldsValue_setOut]
  rfl

theorem cycleOf_setOut_mem (op : Operation) (mode : BitVec 3) (b : Bus) (v : Byte) (s : State) (w : Byte) :
    (cycleOf op mode b v (setOut s w)).mem = (cycleOf op mode b v s).mem := rfl

/-- OUT reaches no register but OUT. -/
theorem cycleOf_setOut_regs (op : Operation) (mode : BitVec 3) (b : Bus) (v : Byte) (s : State) (w : Byte) :
    { (cycleOf op mode b v (setOut s w)).regs with out := 0 } = { (cycleOf op mode b v s).regs with out := 0 } :=
  latch_writeBack_setOut _ _ _ _ s w

/-! ### The CPU block of R138, on numbers -/

theorem pageTarget_eq_ofNat (s : State) (v : Byte) :
    pageTarget s v = BitVec.ofNat 16 (256 * (s.regs.pc.toNat / 256) + v.toNat) := by
  have hpc := s.regs.pc.isLt
  rw [pageTarget, append_eq_ofNat, BitVec.extractLsb'_toNat, Nat.shiftRight_eq_div_pow, Nat.mod_eq_of_lt (by omega)]

theorem sequentialPc_eq_ofNat (s : State) :
    sequentialPc s = BitVec.ofNat 16 ((s.regs.pc.toNat + 1) % 65536) := by
  rw [← sequentialPc_toNat, BitVec.ofNat_toNat, BitVec.setWidth_eq]

/-- The index of R180, on numbers. -/
theorem conditionIndex_eq (ac : Byte) :
    conditionIndex ac = ac.toNat / 128 + 2 * (if ac.toNat = 0 then 1 else 0) := by
  revert ac
  decide

theorem branchTaken_iff (mask : BitVec 3) (ac : Byte) :
    branchTaken mask ac = true ↔
      mask.toNat / 2 ^ (ac.toNat / 128 + 2 * (if ac.toNat = 0 then 1 else 0)) % 2 = 1 := by
  rw [branchTaken, ← conditionIndex_eq, BitVec.getLsbD, Nat.testBit_eq_decide_div_mod_eq, decide_eq_true_iff]

theorem toNat_eq_store_iff (o : BitVec 3) : o.toNat = 6 ↔ operationOf o = .store :=
  (BitVec.toNat_inj (y := 6)).trans (operationOf_eq_store_iff o).symm

theorem toNat_eq_jump_iff (o : BitVec 3) : o.toNat = 7 ↔ operationOf o = .jump :=
  (BitVec.toNat_inj (y := 7)).trans (operationOf_eq_jump_iff o).symm

/-- The addressing form of R138, by the numbers of the operation and the mode: destination, `lo` is X, `hi` is Y,
`incx`. -/
def referenceForm (o mode : BitVec 3) : Dest × Bool × Bool × Bool :=
  if decide (o.toNat = 7) then (.none, false, false, false) else referenceMode mode.toNat

theorem fieldsDest_numbers (o mode : BitVec 3) :
    fieldsDest (operationOf o) (modeOf mode) =
      if decide (o.toNat = 6) && ((referenceForm o mode).1 == .ac || (referenceForm o mode).1 == .out) then .none
      else (referenceForm o mode).1 := by
  revert o mode
  decide

theorem fieldsIncX_numbers (o mode : BitVec 3) :
    fieldsIncX (operationOf o) (modeOf mode) = (referenceForm o mode).2.2.2 := by
  revert o mode
  decide

/-- The address of a mode, by the flags the table of R138 gives it. -/
theorem operandAddress_referenceMode (mode : BitVec 3) (r : Regs) :
    operandAddress (modeOf mode) r =
      ramIndex ((if (referenceMode mode.toNat).2.2.1 then r.y else 0) ++
        if (referenceMode mode.toNat).2.1 then r.x else r.d) := by
  obtain ⟨m, rfl⟩ : ∃ m, modeCode m = mode := ⟨_, modeCode_modeOf mode⟩
  cases m <;> rfl

theorem fieldsAddress_numbers (o mode : BitVec 3) (r : Regs) :
    fieldsAddress (operationOf o) (modeOf mode) r =
      ramIndex ((if (referenceForm o mode).2.2.1 then r.y else 0) ++
        if (referenceForm o mode).2.1 then r.x else r.d) := by
  by_cases hjump : operationOf o = .jump
  · rw [fieldsAddress, if_pos hjump, referenceForm, if_pos (decide_eq_true ((toNat_eq_jump_iff o).mpr hjump))]
    rfl
  · rw [fieldsAddress, if_neg hjump, referenceForm,
      if_neg (mt of_decide_eq_true (mt (toNat_eq_jump_iff o).mp hjump)), operandAddress_referenceMode]

theorem fieldsValue_numbers (o : BitVec 3) (bus : BitVec 2) (a : RamAddr) (s : State) :
    fieldsValue (operationOf o) (busOf bus) a s =
      if bus.toNat = 0 then s.regs.d
      else if bus.toNat = 1 then (if decide (o.toNat = 6) then s.regs.undef else ramRead s.ram a)
      else if bus.toNat = 2 then s.regs.ac
      else inputByte s := by
  obtain ⟨b, rfl⟩ : ∃ b, busCode b = bus := ⟨_, busCode_busOf bus⟩
  rw [fieldsValue, busOf_busCode]
  by_cases hstore : operationOf o = .store
  · rw [if_pos hstore, (toNat_eq_store_iff o).mpr hstore]
    cases b <;> rfl
  · rw [if_neg hstore, decide_eq_false (mt (toNat_eq_store_iff o).mp hstore)]
    cases b <;> rfl

theorem fieldsEvent_numbers (o : BitVec 3) (bus : BitVec 2) (a : RamAddr) (s : State) :
    fieldsEvent (operationOf o) (busOf bus) a (fieldsValue (operationOf o) (busOf bus) a s) s =
      if decide (o.toNat = 6) then .write a (ramRead s.ram a) (fieldsValue (operationOf o) (busOf bus) a s)
      else if bus.toNat = 1 then .read a (fieldsValue (operationOf o) (busOf bus) a s)
      else .none := by
  obtain ⟨b, rfl⟩ : ∃ b, busCode b = bus := ⟨_, busCode_busOf bus⟩
  rw [fieldsEvent, fieldsValue, busOf_busCode]
  by_cases hstore : operationOf o = .store
  · rw [if_pos hstore, if_pos hstore, (toNat_eq_store_iff o).mpr hstore]
    rfl
  · rw [if_neg hstore, if_neg hstore, decide_eq_false (mt (toNat_eq_store_iff o).mp hstore)]
    cases b <;> rfl

/-- The ALU by the number of the operation (R131). -/
theorem fieldsAlu_numbers (o : BitVec 3) (ac v : Byte) :
    fieldsAlu (operationOf o) ac v =
      if o.toNat = 0 then v
      else if o.toNat = 1 then ac &&& v
      else if o.toNat = 2 then ac ||| v
      else if o.toNat = 3 then ac ^^^ v
      else if o.toNat = 4 then BitVec.ofNat 8 ((ac.toNat + v.toNat) % 256)
      else if o.toNat = 5 then BitVec.ofNat 8 ((ac.toNat + 256 - v.toNat) % 256)
      else ac := by
  obtain ⟨op, rfl⟩ : ∃ op, operationCode op = o := ⟨_, operationCode_operationOf o⟩
  rw [operationOf_operationCode]
  cases op
  case add => exact add_eq_ofNat ac v
  case sub => exact sub_eq_ofNat ac v
  all_goals rfl

/-- The next PC by the numbers of the operation and the mode (R134, R180, R181). -/
theorem fieldsPc_numbers (o mode : BitVec 3) (v : Byte) (s : State) :
    fieldsPc (operationOf o) mode v s =
      if decide (o.toNat = 7) then
        if mode.toNat = 0 then BitVec.ofNat 16 (256 * s.regs.y.toNat + v.toNat)
        else if mode.toNat / 2 ^ (s.regs.ac.toNat / 128 + 2 * (if s.regs.ac.toNat = 0 then 1 else 0)) % 2 = 1 then
          BitVec.ofNat 16 (256 * (s.regs.pc.toNat / 256) + v.toNat)
        else BitVec.ofNat 16 ((s.regs.pc.toNat + 1) % 65536)
      else BitVec.ofNat 16 ((s.regs.pc.toNat + 1) % 65536) := by
  have hzero : mode = 0 ↔ mode.toNat = 0 := BitVec.toNat_inj.symm
  simp only [fieldsPc, branchTaken_iff, hzero, ← toNat_eq_jump_iff, decide_eq_true_iff, append_eq_ofNat,
    pageTarget_eq_ofNat, sequentialPc_eq_ofNat]

/-- Write-back and latch, register by register. -/
theorem latch_writeBack (s : State) (p : Addr) (t : Dest) (alu : Byte) (i : Bool) :
    latch s p (writeBack t alu i s.regs) =
      { pc := p
        ir := (romRead s.rom s.regs.pc).opcode
        d := (romRead s.rom s.regs.pc).data
        ac := if t = .ac then alu else s.regs.ac
        x := if i then BitVec.ofNat 8 ((s.regs.x.toNat + 1) % 256) else if t = .x then alu else s.regs.x
        y := if t = .y then alu else s.regs.y
        out := if t = .out then alu else s.regs.out
        undef := entropyDraw s } := by
  have hinc : BitVec.ofNat 8 ((s.regs.x.toNat + 1) % 256) = s.regs.x + 1 := (add_eq_ofNat s.regs.x 1).symm
  rw [hinc]
  cases t <;> cases i <;> rfl

/-- The block of R138 is the cycle of the fields of IR, line by line: each of the block's names is one part of it. -/
theorem referenceStep_eq (s : State) :
    referenceStep s.rom s.regs s.ram (inputByte s) (entropyDraw s) =
      ⟨(cycleEffect s).regs, applyMem (cycleEffect s).mem s.ram, (cycleEffect s).mem⟩ := by
  unfold referenceStep
  rw [cycleEffect, fieldsEffect_eq, ← operationBits_toNat, ← modeBits_toNat, ← busBits_toNat]
  generalize operationBits s.regs.ir = o, modeBits s.regs.ir = mode, busBits s.regs.ir = bus
  extract_lets next op modeNum busNum write jump form dest lo hi incx a b event alu pcNext c
  have ha : fieldsAddress (operationOf o) (modeOf mode) s.regs = a := fieldsAddress_numbers o mode s.regs
  have hb : fieldsValue (operationOf o) (busOf bus) a s = b := fieldsValue_numbers o bus a s
  have hevent : fieldsEvent (operationOf o) (busOf bus) a b s = event := by
    have h := fieldsEvent_numbers o bus a s
    rwa [hb] at h
  have halu : fieldsAlu (operationOf o) s.regs.ac b = alu := fieldsAlu_numbers o s.regs.ac b
  have hdest : fieldsDest (operationOf o) (modeOf mode) = dest := fieldsDest_numbers o mode
  have hincx : fieldsIncX (operationOf o) (modeOf mode) = incx := fieldsIncX_numbers o mode
  have hpc := fieldsPc_numbers o mode b s
  have hram : applyMem event s.ram = if write then ramWrite s.ram a b else s.ram := by
    simp only [event]
    split
    · rfl
    · split <;> rfl
  rw [ha, hb]
  simp only [cycleOf]
  rw [ha, hevent, halu, hdest, hincx, hpc, latch_writeBack, hram]

/-! ### The RTI block of R237, on numbers -/

theorem getLsbD_fallingBits {k : Nat} (hk : k < 8) (prev o : Byte) :
    (fallingBits prev o).getLsbD k = true ↔ prev.toNat / 2 ^ k % 2 = 1 ∧ o.toNat / 2 ^ k % 2 = 0 := by
  rw [fallingBits, BitVec.getLsbD_and, BitVec.getLsbD_not, BitVec.getLsbD, BitVec.getLsbD,
    Nat.testBit_eq_decide_div_mod_eq, Nat.testBit_eq_decide_div_mod_eq]
  simp [hk]

theorem verticalFall_iff (prev o : Byte) :
    verticalFall prev o = true ↔ prev.toNat / 128 % 2 = 1 ∧ o.toNat / 128 % 2 = 0 :=
  getLsbD_fallingBits (by decide) prev o

theorem horizontalFall_iff (prev o : Byte) :
    horizontalFall prev o = true ↔ prev.toNat / 64 % 2 = 1 ∧ o.toNat / 64 % 2 = 0 :=
  getLsbD_fallingBits (by decide) prev o

theorem channel_eq_ofNat (v : BitVec 2) : channel v = BitVec.ofNat 8 (85 * v.toNat) := by
  revert v; decide

theorem colour_eq_ofNat (o : Byte) :
    colour o =
      ⟨BitVec.ofNat 8 (85 * (o.toNat % 4)), BitVec.ofNat 8 (85 * (o.toNat / 4 % 4)),
        BitVec.ofNat 8 (85 * (o.toNat / 16 % 4))⟩ := by
  simp only [colour, channel_eq_ofNat, BitVec.extractLsb'_toNat, Nat.shiftRight_eq_div_pow, Nat.reducePow,
    Nat.div_one]

theorem paintPixels_four (npix : Nat) (p : Pixel) (k : Nat) (f : Frame) :
    paintPixels npix p 4 k f =
      [0, 1, 2, 3].foldl (fun g j => if k + j < npix then frameWrite g (k + j) p else g) f := rfl

theorem visibleAt_iff (t : Timing) (line : Int) (col : Nat) :
    visibleAt t line col = true ↔
      ((t.v.backPorch + t.v.pulse : Nat) : Int) ≤ line ∧
        line < ((t.v.backPorch + t.v.pulse : Nat) : Int) + t.v.visible ∧
        t.h.backPorch + t.h.pulse ≤ col ∧ col < t.h.backPorch + t.h.pulse + t.h.visible := by
  rw [visibleAt, decide_eq_true_iff, windowEnd, Nat.cast_add]
  rfl

/-- The state after a cycle, field by field, from the one after its edge actions. -/
theorem rtiStep_rti (t : Timing) (r : Rti) (o : Byte) :
    let e := edgeActions o r
    (rtiStep t r o).rti =
      { prev := o
        line := e.line
        col := e.col + 4
        cursor := if visibleAt t e.line e.col then e.cursor + 4 else e.cursor
        back := if visibleAt t e.line e.col then paintPixels (pixelCount t) (colour o) 4 e.cursor e.back else e.back
        front := e.front } := by
  simp only [rtiStep]
  cases visibleAt t (edgeActions o r).line (edgeActions o r).col <;> rfl

/-- The block of R237 is the RTI's step, line by line. -/
theorem referenceRti_eq (t : Timing) (r : Rti) (o : Byte) :
    referenceRti t r o = ⟨(rtiStep t r o).rti, (rtiStep t r o).render, (rtiStep t r o).violation⟩ := by
  unfold referenceRti
  extract_lets vfall hfall line0 cursor0 front line col hstart vstart visible npix p put
  have hv : verticalFall r.prev o = true ↔ vfall := verticalFall_iff r.prev o
  have hh : horizontalFall r.prev o = true ↔ hfall := horizontalFall_iff r.prev o
  have hline : (edgeActions o r).line = line := by
    rw [edgeActions_line]
    simp only [hv, hh]
    by_cases h : hfall
    · simp only [line, line0, if_pos h]
    · simp only [line, line0, if_neg h, add_zero]
  have hcol : (edgeActions o r).col = col := by
    rw [edgeActions_col]
    simp only [hh, col]
  have hcursor : (edgeActions o r).cursor = cursor0 := by
    rw [edgeActions_cursor]
    simp only [hv, cursor0]
  have hfront : (edgeActions o r).front = front := by
    rw [edgeActions_front]
    simp only [hv, front]
  have hvisible : visibleAt t line col = true ↔ visible := visibleAt_iff t line col
  have hpaint : paintPixels (pixelCount t) (colour o) 4 cursor0 r.back = [0, 1, 2, 3].foldl put r.back := by
    rw [colour_eq_ofNat]
    exact paintPixels_four _ _ _ _
  have hrender : verticalFall r.prev o = decide vfall := Bool.eq_iff_iff.mpr (hv.trans decide_eq_true_iff.symm)
  have hviolation : (horizontalFall r.prev o && r.col != hTotal t) =
      decide (hfall ∧ r.col ≠ t.h.frontPorch + t.h.pulse + t.h.backPorch + t.h.visible) := by
    rw [Bool.eq_iff_iff, Bool.and_eq_true, hh, bne_iff_ne, decide_eq_true_iff]
    rfl
  rw [rtiStep_rti, rtiStep_render, rtiStep_violation, hline, hcol, hcursor, hfront, edgeActions_back, hpaint,
    hrender, hviolation]
  simp only [hvisible]

end Sys2Proof.Machine

namespace Sys2Proof.Claims

open Sys2Proof.Machine

/-- Settles O21: the CPU's part of a step is the block of R138 and the RTI's part that of R237. -/
theorem stepIsTheReferenceBlocks : Obligations.StepIsTheReferenceBlocks := by
  intro s
  rw [referenceStep_eq, step_eq, ← (cycleEffect_fetches s).queued]
  simp only [referenceRti_eq]
  rfl

/-- Settles O23: every shape of cycle fetches. -/
theorem fetchedWordIsLatched : Obligations.FetchedWordIsLatched :=
  fun s => ⟨_, step_eq s, (cycleEffect_fetches s).ir, (cycleEffect_fetches s).d⟩

/-- Settles O26: what is no jump takes the next PC, and so does a branch whose bit is clear. -/
theorem onlyTakenJumpsLeaveTheSequence : Obligations.OnlyTakenJumpsLeaveTheSequence := by
  intro s
  refine ⟨_, step_eq s, fun hop => ?_, fun _ hmode hbit => ?_⟩
  all_goals rw [endCycle_regs, advance_regs, cycleEffect, fieldsEffect_eq, cycleOf_pc, ← sequentialPc_toNat]
  · rw [fieldsPc_of_not_jump (mt (operationOf_eq_jump_iff _).mp hop)]
  · rw [fieldsPc_of_not_taken hmode hbit]

/-- Settles O27: write-back, register by register. A jump has no destination, so only what is no jump is asked for its
ALU result. -/
theorem writeBackFollowsTheModeField : Obligations.WriteBackFollowsTheModeField := by
  intro s op m b v alu dest incx
  have halu (h : op ≠ .jump) :
      fieldsAlu op s.regs.ac (fieldsValue op b (fieldsAddress op m s.regs) s) = alu := by
    clear_value op
    cases op
    case jump => exact absurd rfl h
    all_goals rfl
  have hwrite (t : Dest) (ht : .none ≠ t) (r : Byte) :
      (if fieldsDest op m = t then fieldsAlu op s.regs.ac (fieldsValue op b (fieldsAddress op m s.regs) s) else r) =
        if dest = t then alu else r := by
    by_cases hjump : op = .jump
    · have hnone : dest = .none := if_pos hjump
      have hfields : fieldsDest op m = .none := hnone
      rw [hfields, hnone, if_neg ht, if_neg ht]
    · rw [halu hjump]
      rfl
  refine ⟨_, step_eq s, ?_⟩
  rw [endCycle_regs, advance_regs, cycleEffect, fieldsEffect_eq, cycleOf_ac, cycleOf_y, cycleOf_out, cycleOf_x,
    hwrite .ac (by decide), hwrite .y (by decide), hwrite .out (by decide), hwrite .x (by decide),
    fieldsIncX_eq_decide, add_eq_ofNat]
  exact ⟨rfl, rfl, rfl, rfl⟩

/-- Settles O31, by the command: each leaves the two fields alone. -/
theorem romAndConfigurationNeverChange : Obligations.RomAndConfigurationNeverChange := by
  intro c s t hcmd
  cases c with
  | clock =>
    rw [command, step_eq] at hcmd
    cases hcmd
    exact ⟨rfl, rfl⟩
  | supplyInput _ | supplyDraw _ | hardReset _ | softReset _ | apply _ =>
    cases hcmd
    exact ⟨rfl, rfl⟩

/-- Settles O33: UNDEF reaches the cycle's effect only as the bus value of a store, and the latch replaces it. -/
theorem floatingBusReachesOnlyRamBusStores : Obligations.FloatingBusReachesOnlyRamBusStores := by
  intro s w h
  have hfields : ¬ (operationOf (operationBits s.regs.ir) = .store ∧ busOf (busBits s.regs.ir) = .ram) := by
    rwa [operationOf_eq_store_iff, busOf_eq_ram_iff]
  have heffect : cycleEffect (setUndef s w) = cycleEffect s := fieldsEffect_setUndef hfields _ s w
  rw [step_eq, step_eq, heffect]
  rfl

/-- Settles O34: the input byte reaches the cycle's effect only as the bus value. -/
theorem inputReachesOnlyBusIn : Obligations.InputReachesOnlyBusIn := by
  intro s w h
  have heffect : cycleEffect (setInput s w) = cycleEffect s :=
    fieldsEffect_setInput (mt (busOf_eq_input_iff _).mp h) _ _ s w
  rw [step_eq, step_eq, heffect]
  rfl

/-- Settles O35: no bus source is OUT, so both cycles have the same bus value; write-back then either replaces OUT in
both or keeps each its own. -/
theorem outIsNeverReadByTheCpu : Obligations.OutIsNeverReadByTheCpu := by
  intro i s w
  refine ⟨_, _, exec_eq i s, exec_eq i (setOut s w), ?_⟩
  rw [fieldsEffect_setOut, fieldsEffect_eq _ _ _ s]
  refine ⟨congrArg (applyMem · s.ram) (cycleOf_setOut_mem _ _ _ _ s w),
    cycleOf_setOut_regs _ _ (fieldsOf i).bus _ s w, ?_⟩
  rw [advance_regs, advance_regs, cycleOf_out, cycleOf_out]
  split
  · exact .inl rfl
  · exact .inr ⟨rfl, rfl⟩

/-- Settles O6, by the table of the modes. -/
theorem modesWithASettledHighByte : Obligations.ModesWithASettledHighByte :=
  fun _ => ⟨⟨rfl, rfl, rfl, rfl⟩, ⟨rfl, rfl, rfl, rfl⟩, ⟨rfl, rfl, rfl, rfl⟩, rfl, rfl, rfl, rfl⟩

/-- Settles O7: the high byte of each of these addresses is zero. -/
theorem zeroPageModesAndJumps : Obligations.ZeroPageModesAndJumps := by
  intro r
  rw [jumpAddress_eq_operandAddress]
  have hd : (operandAddress .dToAc r).toNat = r.d.toNat := operandAddress_of_zero_high rfl
  exact ⟨hd, rfl, operandAddress_of_zero_high rfl, rfl, hd, rfl, hd, rfl, by decide, hd⟩

/-- Settles O9, by the bus source. -/
theorem busSelectsItsSource : Obligations.BusSelectsItsSource :=
  fun _ _ => ⟨⟨rfl, rfl⟩, ⟨rfl, rfl⟩, ⟨rfl, rfl⟩, ⟨rfl, rfl⟩, fun _ _ h => inputByte_supplied h⟩

/-- Settles O20: the word (IR, D) decodes to the row of IR, which is what a step executes. -/
theorem stepRunsTheDecodedInstruction : Obligations.StepRunsTheDecodedInstruction := by
  intro s i hdecode _
  rw [decode_word] at hdecode
  injection hdecode with hi
  subst hi
  exact ⟨_, exec_decodeOpcode s, step_eq s⟩

end Sys2Proof.Claims

/-! SUPPORT. The statements of 41_alu.md: the result and the frame of LD, AND, OR, XOR, ADD and SUB. The six operations
share one cycle, so what the cycle does is proved of it once, for every operation; then the statements. -/

namespace Sys2Proof.Machine

/-! ### The ALU, on numbers (R155, R156) -/

theorem sub_eq_ofInt (v w : Byte) : v - w = BitVec.ofInt 8 (((v.toNat : Int) - w.toNat) % 256) := by
  have hv := v.isLt
  have hw := w.isLt
  apply BitVec.eq_of_toNat_eq
  rw [BitVec.toNat_sub, BitVec.toNat_ofInt]
  omega

/-! ### The cycle of an ALU row: write-back with the destination its mode names (R114 to R121, R132) -/

/-- The memory event of what is no store carries the bus value (R126). -/
theorem busEvent_eq (b : Bus) (a : RamAddr) (s : State) :
    busEvent b a s = if b = .ram then .read a (busValue b a s) else .none := by
  cases b <;> rfl

section
variable (op : AluOp) (m : Mode) (b : Bus) (s : State)

/-- The ALU result of the cycle. -/
def aluOutput : Byte := aluResult op s.regs.ac (busValue b (operandAddress m s.regs) s)

theorem aluEffect_ac :
    (aluEffect op m b s).regs.ac =
      if m ∈ [Mode.dToAc, .xToAc, .ydToAc, .yxToAc] then aluOutput op m b s else s.regs.ac := by
  refine (writeBack_ac _ _ _ _).trans ?_
  cases m <;> rfl

/-- No mode both has X as its destination and increments it, so the two may be asked in either order. -/
theorem aluEffect_x :
    (aluEffect op m b s).regs.x =
      if m = .dToX then aluOutput op m b s else if m = .yxIncToOut then s.regs.x + 1 else s.regs.x := by
  refine (writeBack_x _ _ _ _).trans ?_
  cases m <;> rfl

theorem aluEffect_y :
    (aluEffect op m b s).regs.y = if m = .dToY then aluOutput op m b s else s.regs.y := by
  refine (writeBack_y _ _ _ _).trans ?_
  cases m <;> rfl

theorem aluEffect_out :
    (aluEffect op m b s).regs.out =
      if m ∈ [Mode.dToOut, .yxIncToOut] then aluOutput op m b s else s.regs.out := by
  refine (writeBack_out _ _ _ _).trans ?_
  cases m <;> rfl

end

end Sys2Proof.Machine

namespace Sys2Proof.Claims

open Sys2Proof.Machine

/-! ### The frame of a cycle -/

/-- Applying the effect of a cycle that fetches is a CPU cycle with the effect's PC and event. -/
theorem cpuCycle_advance {e : CycleEffect} {s : State} (h : Fetches e s) :
    CpuCycle s (advance e s) e.regs.pc e.mem where
  pc := rfl
  ir := h.ir
  d := h.d
  undef := h.undef
  effect := by rw [advance_effect, advance_regs, ← h.queued]
  rom := rfl
  rti := rfl
  timing := rfl
  inputs := rfl
  draws := rfl
  cycle := rfl
  render := rfl
  violation := rfl

theorem ramKept_advance {e : CycleEffect} {s : State} (h : applyMem e.mem s.ram = s.ram) : RamKept s (advance e s) :=
  fun k => congrArg (ramRead · k) h

/-- A row whose meaning is the cycle of `op` has the result and the frame of an ALU row, with the ALU's function. -/
theorem aluRow_of_exec {instr : Mode → Bus → Instr} {op : AluOp}
    (hexec : ∀ m b s, exec (instr m b) s = .next (advance (aluEffect op m b s) s)) : AluRow instr (aluResult op) := by
  intro m b s a v
  have hcycle := cpuCycle_advance (aluEffect_fetches op m b s)
  have hevent : (aluEffect op m b s).mem = if b = .ram then .read a v else .none := busEvent_eq b a s
  rw [aluEffect_pc, hevent] at hcycle
  exact ⟨_, hexec m b s, aluEffect_ac op m b s, aluEffect_x op m b s, aluEffect_y op m b s, aluEffect_out op m b s,
    ramKept_advance (aluEffect_keeps_ram op m b s), hcycle⟩

/-- Settles O10: the ALU passes the bus value through. -/
theorem loadResultAndFrame : Obligations.LoadResultAndFrame := aluRow_of_exec exec_ldInstr

/-- Settles O11: the three rows differ in the ALU operation alone. -/
theorem logicResultAndFrame : Obligations.LogicResultAndFrame :=
  ⟨aluRow_of_exec exec_andInstr, aluRow_of_exec exec_orInstr, aluRow_of_exec exec_xorInstr⟩

/-- Settles O12: the sum of two bytes wraps modulo 256. -/
theorem addResultAndFrame : Obligations.AddResultAndFrame := by
  have hadd : aluResult .add = fun ac b => BitVec.ofNat 8 ((ac.toNat + b.toNat) % 256) := funext₂ add_eq_ofNat
  rw [Obligations.AddResultAndFrame, ← hadd]
  exact aluRow_of_exec exec_addInstr

/-- Settles O13: the difference of two bytes wraps modulo 256. -/
theorem subResultAndFrame : Obligations.SubResultAndFrame := by
  have hsub : aluResult .sub = fun ac b => BitVec.ofInt 8 (((ac.toNat : Int) - b.toNat) % 256) :=
    funext₂ sub_eq_ofInt
  rw [Obligations.SubResultAndFrame, ← hsub]
  exact aluRow_of_exec exec_subInstr

end Sys2Proof.Claims

/-! SUPPORT. The statements of 42_store.md: the result and the frame of ST. What the cycle of a store does to each
register and to RAM first, then the statements. -/

namespace Sys2Proof.Machine

/-! ### The cycle of ST: write-back of AC with the masked destination (R123, R170, R171) -/

section
variable (m : Mode) (b : Bus) (s : State)

/-- No masked destination is AC. -/
theorem storeEffect_ac : (storeEffect m b s).regs.ac = s.regs.ac :=
  (writeBack_ac _ _ _ _).trans (if_neg (maskDest_cases _).1)

/-- No masked destination is OUT. -/
theorem storeEffect_out : (storeEffect m b s).regs.out = s.regs.out :=
  (writeBack_out _ _ _ _).trans (if_neg (maskDest_cases _).2)

/-- The mask leaves X as the destination of mode 4, and mode 7 increments it (R172, R173). -/
theorem storeEffect_x :
    (storeEffect m b s).regs.x =
      if m = .dToX then s.regs.ac else if m = .yxIncToOut then s.regs.x + 1 else s.regs.x := by
  refine (writeBack_x _ _ _ _).trans ?_
  cases m <;> rfl

/-- The mask leaves Y as the destination of mode 5 (R172). -/
theorem storeEffect_y : (storeEffect m b s).regs.y = if m = .dToY then s.regs.ac else s.regs.y := by
  refine (writeBack_y _ _ _ _).trans ?_
  cases m <;> rfl

theorem storeEffect_mem :
    (storeEffect m b s).mem =
      .write (operandAddress m s.regs) (ramRead s.ram (operandAddress m s.regs)) (storeValue b s) := rfl

/-- A store changes the byte at its operand address and no other (R170). -/
theorem advance_storeEffect_read (k : RamAddr) :
    ramRead (advance (storeEffect m b s) s).ram k =
      if k = operandAddress m s.regs then storeValue b s else ramRead s.ram k := by
  rw [advance_ram, storeEffect_ram, ramRead_write]

end

/-- The cycle of an opcode byte with operation 6 is a store, in the mode and with the bus source of its other two
fields (R82). -/
theorem cycleEffect_of_store {s : State} (h : operationBits s.regs.ir = 6) :
    cycleEffect s = storeEffect (modeOf (modeBits s.regs.ir)) (busOf (busBits s.regs.ir)) s := by
  rw [cycleEffect, (operationOf_eq_store_iff _).mpr h, fieldsEffect]

end Sys2Proof.Machine

namespace Sys2Proof.Claims

open Sys2Proof.Machine

/-- Settles O14: the cycle of a store, register by register, its one changed byte of RAM, and the frame of a cycle that
fetches. -/
theorem storeResultAndFrame : Obligations.StoreResultAndFrame := by
  intro m b s a v
  have hvalue : storeValue b s = v := by cases b <;> rfl
  have hread := advance_storeEffect_read m b s
  have hcycle := cpuCycle_advance (storeEffect_fetches m b s)
  rw [storeEffect_pc, storeEffect_mem, hvalue] at hcycle
  rw [hvalue] at hread
  exact ⟨_, exec_stInstr m b s, storeEffect_ac m b s, storeEffect_x m b s, storeEffect_y m b s,
    storeEffect_out m b s, hread, hcycle⟩

/-- Settles O29: a step of operation 6 is the cycle of a store, whose masked destination is neither AC nor OUT. -/
theorem storeNeverChangesAcOrOut : Obligations.StoreNeverChangesAcOrOut := by
  intro s hop
  refine ⟨_, step_eq s, ?_⟩
  rw [cycleEffect_of_store hop]
  exact ⟨storeEffect_ac _ _ s, storeEffect_out _ _ s⟩

end Sys2Proof.Claims

/-! SUPPORT. The statements of 43_jump.md: the condition index and the sign of AC, the cycle of a jump with its result
and frame, the page of a branch, and the delay slot. The lemmas first, then the statements. -/

namespace Sys2Proof.Machine

/-! ### The conditions, by the sign of AC (R180, R182 to R188) -/

theorem isZero_toNat (ac : Byte) : (isZero ac).toNat = if ac = 0 then 1 else 0 := by
  by_cases h : ac = 0
  · rw [if_pos h, h]
    rfl
  · rw [if_neg h, isZero, beq_false_of_ne h]
    rfl

/-- The three values of the index are the three signs of AC. -/
theorem conditionIndex_eq_sign (ac : Byte) :
    conditionIndex ac = if 0 < ac.toInt then 0 else if ac.toInt < 0 then 1 else 2 := by
  have hac := ac.isLt
  rw [conditionIndex_eq, BitVec.toInt_eq_toNat_cond]
  split_ifs <;> omega

/-- The condition on AC that the spec gives each jump; the far jump has none. -/
def condHolds (c : Cond) (ac : Byte) : Prop :=
  match c with
  | .jmp => True
  | .bgt => 0 < ac.toInt
  | .blt => ac.toInt < 0
  | .bne => ac ≠ 0
  | .beq => ac = 0
  | .bge => 0 ≤ ac.toInt
  | .ble => ac.toInt ≤ 0
  | .bra => True

/-- The bit that the index selects from a branch's mode field says whether its condition holds. -/
theorem branchTaken_iff_condHolds {c : Cond} (h : c ≠ .jmp) (ac : Byte) :
    branchTaken (condCode c) ac = true ↔ condHolds c ac := by
  have hzero : ac = 0 ↔ ac.toInt = 0 := BitVec.toInt_inj.symm
  rw [branchTaken, conditionIndex_eq_sign]
  cases c
  case jmp => exact absurd rfl h
  all_goals
    simp only [condHolds, ne_eq, hzero]
    split_ifs <;> simp [condCode] <;> omega

/-! ### The cycle of a jump (R122, R180, R181) -/

/-- Every jump latches its next PC over unchanged registers and has the event of its bus field at `{0x00, D}`. -/
theorem jumpEffect_eq (c : Cond) (b : Bus) (s : State) :
    jumpEffect c b s =
      { regs := latch s (fieldsPc .jump (condCode c) (busValue b (jumpAddress s.regs) s) s) s.regs
        queued := s.regs.pc
        mem := busEvent b (jumpAddress s.regs) s } := by
  cases c <;> rfl

theorem jumpEffect_fetches (c : Cond) (b : Bus) (s : State) : Fetches (jumpEffect c b s) s := by
  rw [jumpEffect_eq]
  exact ⟨rfl, rfl, rfl, rfl⟩

theorem jumpEffect_pc (c : Cond) (b : Bus) (s : State) :
    (jumpEffect c b s).regs.pc = fieldsPc .jump (condCode c) (busValue b (jumpAddress s.regs) s) s := by
  rw [jumpEffect_eq]
  rfl

theorem jumpEffect_mem (c : Cond) (b : Bus) (s : State) :
    (jumpEffect c b s).mem = busEvent b (jumpAddress s.regs) s := by
  rw [jumpEffect_eq]

theorem jumpEffect_keeps_ram (c : Cond) (b : Bus) (s : State) : applyMem (jumpEffect c b s).mem s.ram = s.ram := by
  rw [jumpEffect_mem]
  exact applyMem_busEvent _ _ _ _

theorem jumpEffect_regs (c : Cond) (b : Bus) (s : State) :
    (jumpEffect c b s).regs.ac = s.regs.ac ∧ (jumpEffect c b s).regs.x = s.regs.x ∧
      (jumpEffect c b s).regs.y = s.regs.y ∧ (jumpEffect c b s).regs.out = s.regs.out := by
  rw [jumpEffect_eq]
  exact ⟨rfl, rfl, rfl, rfl⟩

theorem fieldsPc_of_far_jump (v : Byte) (s : State) :
    fieldsPc .jump (condCode .jmp) v s = s.regs.y ++ v := rfl

theorem fieldsPc_of_branch {c : Cond} (h : c ≠ .jmp) (v : Byte) (s : State) :
    fieldsPc .jump (condCode c) v s =
      if branchTaken (condCode c) s.regs.ac then pageTarget s v else sequentialPc s := by
  cases c
  case jmp => exact absurd rfl h
  all_goals rfl

/-- A taken branch keeps the page of the PC (R190). -/
theorem pageTarget_page (s : State) (v : Byte) : (pageTarget s v).toNat / 256 = s.regs.pc.toNat / 256 := by
  have hpc := s.regs.pc.isLt
  have hv := v.isLt
  rw [pageTarget_eq_ofNat, BitVec.toNat_ofNat]
  omega

/-! ### Steps of jumps -/

/-- The state after a jump. -/
def afterJump (c : Cond) (b : Bus) (s : State) : State := endCycle (advance (jumpEffect c b s) s)

theorem step_jump {c : Cond} {b : Bus} {s : State} (h : s.regs.ir = encodeOpcode (jumpInstr c b)) :
    step s = .next (afterJump c b s) :=
  step_of_encodeOpcode h (exec_jumpInstr c b s)

theorem afterJump_pc (c : Cond) (b : Bus) (s : State) :
    (afterJump c b s).regs.pc = fieldsPc .jump (condCode c) (busValue b (jumpAddress s.regs) s) s :=
  jumpEffect_pc c b s

theorem cycleEffect_pc_of_not_jump {s : State} (h : operationBits s.regs.ir ≠ 7) :
    (cycleEffect s).regs.pc = s.regs.pc + 1 := by
  rw [cycleEffect, fieldsEffect_eq, cycleOf_pc, fieldsPc_of_not_jump (mt (operationOf_eq_jump_iff _).mp h),
    sequentialPc]

end Sys2Proof.Machine

namespace Sys2Proof.Claims

open Sys2Proof.Machine

/-- A jump whose next PC is `target` has the result and the frame of a jump row. -/
theorem jumpRow_of_pc {c : Cond} {target : State → Byte → Addr}
    (htarget : ∀ (s : State) (v : Byte), fieldsPc .jump (condCode c) v s = target s v) : JumpRow c target := by
  intro b s a v
  have hcycle := cpuCycle_advance (jumpEffect_fetches c b s)
  rw [jumpEffect_pc, htarget, jumpEffect_mem, busEvent_eq] at hcycle
  obtain ⟨hac, hx, hy, hout⟩ := jumpEffect_regs c b s
  exact ⟨_, exec_jumpInstr c b s, hac, hx, hy, hout, ramKept_advance (jumpEffect_keeps_ram c b s), hcycle⟩

/-- A branch has the result and the frame of a jump row, taken when its condition holds of AC. -/
theorem jumpRow_of_condHolds {c : Cond} {cond : Byte → Prop} [DecidablePred cond] (hc : c ≠ .jmp)
    (hcond : ∀ ac, condHolds c ac ↔ cond ac) : JumpRow c (branchPc cond) := by
  refine jumpRow_of_pc fun s v => ?_
  have htaken : branchTaken (condCode c) s.regs.ac = true ↔ cond s.regs.ac :=
    (branchTaken_iff_condHolds hc _).trans (hcond _)
  simp only [fieldsPc_of_branch hc, htaken, branchPc, pageTarget_eq_ofNat, sequentialPc]

/-- Settles O15: the far target is the concatenation of Y and the bus value. -/
theorem farJumpResultAndFrame : Obligations.FarJumpResultAndFrame :=
  jumpRow_of_pc fun s v => (fieldsPc_of_far_jump v s).trans (append_eq_ofNat s.regs.y v)

/-- Settles O16, by the conditions of the four branches. -/
theorem signBranchesResultAndFrame : Obligations.SignBranchesResultAndFrame :=
  ⟨jumpRow_of_condHolds (by decide) fun _ => Iff.rfl, jumpRow_of_condHolds (by decide) fun _ => Iff.rfl,
    jumpRow_of_condHolds (by decide) fun _ => Iff.rfl, jumpRow_of_condHolds (by decide) fun _ => Iff.rfl⟩

/-- Settles O17, by the conditions of the two branches. -/
theorem zeroBranchesResultAndFrame : Obligations.ZeroBranchesResultAndFrame :=
  ⟨jumpRow_of_condHolds (by decide) fun _ => Iff.rfl, jumpRow_of_condHolds (by decide) fun _ => Iff.rfl⟩

/-- Settles O18: the condition of BRA holds of every AC. -/
theorem branchAlwaysResultAndFrame : Obligations.BranchAlwaysResultAndFrame :=
  jumpRow_of_condHolds (by decide) fun _ => Iff.rfl

/-- Settles O19: the index on numbers, and the next PC of a branch by the bit it selects. -/
theorem branchConditionSelector : Obligations.BranchConditionSelector := by
  refine ⟨fun ac => ⟨?_, ?_⟩, fun c b s hc => ⟨_, exec_jumpInstr c b s, (jumpEffect_regs c b s).1, ?_⟩⟩
  · rw [conditionIndex, accumulatorSign, isZero_toNat]
  · have hac := ac.isLt
    rw [conditionIndex_eq]
    refine ⟨fun hpositive => ?_, fun hnegative => ?_, fun hzero => ?_⟩ <;> split <;> omega
  · rw [advance_regs, jumpEffect_pc, fieldsPc_of_branch hc]
    rfl

/-- Settles O24: the jump latches the word at the old PC and sets the PC to its target, where the cycle after it
fetches. -/
theorem delaySlotOfAFarJump : Obligations.DelaySlotOfAFarJump := by
  intro s hir
  have hfirst : step s = .next (afterJump .jmp .data s) := step_jump hir
  have hfetch := jumpEffect_fetches .jmp .data s
  have hpc : (afterJump .jmp .data s).regs.pc = s.regs.y ++ s.regs.d := afterJump_pc .jmp .data s
  have hnext := cycleEffect_fetches (afterJump .jmp .data s)
  rw [← hpc]
  exact ⟨_, _, hfirst, step_eq _, congrArg decodeOpcode hfetch.ir, hfetch.d, rfl, hnext.ir, hnext.d,
    cycleEffect_pc_of_not_jump⟩

/-- Settles O25: a taken branch keeps the page of the PC, which is j + 1, and an untaken one increments the PC. -/
theorem branchPageIsThatOfTheDelaySlot : Obligations.BranchPageIsThatOfTheDelaySlot := by
  intro j c b s hc hir hpc
  refine ⟨_, step_jump hir, fun htaken => ?_, fun huntaken => ?_⟩
  · rw [afterJump_pc, fieldsPc_of_branch hc, if_pos htaken, pageTarget_page, hpc, BitVec.toNat_add]
    rfl
  · rw [afterJump_pc, fieldsPc_of_branch hc, huntaken, if_neg Bool.false_ne_true, sequentialPc, hpc, BitVec.add_assoc]
    rfl

end Sys2Proof.Claims

/-! SUPPORT. The statements of 50_reversible_stepping.md: the memory event and `queued` of every cycle, a clock as the
effect it applies, and undoing. Every clock keeps what its inverse needs: the write's previous byte is the one that stood
there. The lemmas first, then the statements. -/

namespace Sys2Proof.Machine

/-! ### The memory event of a cycle (R202) -/

/-- A cycle that is no store has the event of its bus field, at the address of a jump or of its mode. -/
theorem cycleEffect_mem_of_ne_store {s : State} (h : operationBits s.regs.ir ≠ 6) :
    (cycleEffect s).mem =
      busEvent (busOf (busBits s.regs.ir))
        (if operationBits s.regs.ir = 7 then jumpAddress s.regs
          else operandAddress (modeOf (modeBits s.regs.ir)) s.regs) s := by
  rw [cycleEffect, fieldsEffect_mem_of_ne_store (mt (operationOf_eq_store_iff _).mp h)]
  simp only [operationOf_eq_jump_iff]

/-- The write of `e`, if it has one, has as its previous byte the one that stands there in `s`. -/
def PreviousFits (e : CycleEffect) (s : State) : Prop := ∀ a p n, e.mem = .write a p n → p = ramRead s.ram a

/-- The effect of a cycle fits the state it starts from: the store records the byte it overwrites. -/
theorem cycleEffect_previousFits (s : State) : PreviousFits (cycleEffect s) s := by
  intro a p n hwrite
  obtain ⟨hstore, -⟩ := cycleEffect_write hwrite
  rw [cycleEffect_of_store hstore, storeEffect_mem] at hwrite
  cases hwrite
  rfl

/-! ### An effect and its inverse (R205, R207) -/

/-- Writing the previous byte back undoes a write that fits. -/
theorem applyMem_invertMem {e : CycleEffect} {s : State} (hwf : Memory.wf s.ram) (hfits : PreviousFits e s) :
    applyMem (invertMem e.mem) (applyMem e.mem s.ram) = s.ram := by
  cases hmem : e.mem with
  | none => rfl
  | read a v => rfl
  | write a p n =>
    rw [hfits a p n hmem]
    exact ramWrite_restore hwf a n

/-- The inverse of the inverse, taken over the registers the effect left, is the effect. -/
theorem invertEffect_invertEffect (e : CycleEffect) (r : Regs) : invertEffect (invertEffect e r) e.regs = e :=
  congrArg (CycleEffect.mk e.regs e.queued) (invertMem_involutive e.mem)

/-! ### Undoing a sequence (R208) -/

/-- Applying one effect more, after the others. -/
theorem applyAll_concat (l : List CycleEffect) (e : CycleEffect) (u : State) :
    applyAll (l ++ [e]) u =
      ((hostApply e (applyAll l u).1).1, (applyAll l u).2 ++ [(hostApply e (applyAll l u).1).2]) := by
  induction l generalizing u with
  | nil => rfl
  | cons d l ih => simp only [List.cons_append, applyAll, ih]

/-- A clock puts its effect and the inverse at the head of the log. -/
theorem advances_succ {n : Nat} {s u : State} {log : List (CycleEffect × CycleEffect)}
    (h : advances n (endCycle (advance (cycleEffect s) s)) = some (u, log)) :
    advances (n + 1) s = some (u, (cycleEffect s, invertEffect (cycleEffect s) s.regs) :: log) := by
  simp only [advances, step_eq, h, endCycle_effect, advance_effect, applyEffect_inverse]

/-- The inverses of `log`, the last first, take `u` back to the registers and the RAM of `s`, and the effects they
return are the effects of `log`, the last first. UNDEF is restored too, for an inverse carries all the registers. -/
structure Undoes (log : List (CycleEffect × CycleEffect)) (u s : State) : Prop where
  regs    : (applyAll (log.reverse.map Prod.snd) u).1.regs = s.regs
  ram     : (applyAll (log.reverse.map Prod.snd) u).1.ram = s.ram
  effects : (applyAll (log.reverse.map Prod.snd) u).2 = log.reverse.map Prod.fst

theorem undoes_nil (s : State) : Undoes [] s s := ⟨rfl, rfl, rfl⟩

/-- The inverse of the first effect is applied last, to the state that the other inverses restore. -/
theorem undoes_cons {log : List (CycleEffect × CycleEffect)} {u t s : State} {e : CycleEffect} (h : Undoes log u t)
    (hregs : t.regs = e.regs) (hram : t.ram = applyMem e.mem s.ram) (hwf : Memory.wf s.ram) (hfits : PreviousFits e s) :
    Undoes ((e, invertEffect e s.regs) :: log) u s := by
  have hundo := applyAll_concat (log.reverse.map Prod.snd) (invertEffect e s.regs) u
  constructor <;> rw [List.reverse_cons, List.map_append, List.map_singleton, hundo]
  case regs => rfl
  case ram => rw [hostApply_ram, invertEffect_mem, h.ram, hram, applyMem_invertMem hwf hfits]
  case effects =>
    rw [hostApply_inverse, h.regs, hregs, invertEffect_invertEffect, h.effects, List.map_append, List.map_singleton]

/-- Any number of clocks answers with a log that undoes them, by induction on the number. -/
theorem advances_undoes (n : Nat) (s : State) (hwf : Memory.wf s.ram) :
    ∃ u log, advances n s = some (u, log) ∧ log.length = n ∧ Undoes log u s := by
  induction n generalizing s with
  | zero => exact ⟨s, [], rfl, rfl, undoes_nil s⟩
  | succ n ih =>
    obtain ⟨u, log, hrun, hlength, hundo⟩ :=
      ih (endCycle (advance (cycleEffect s) s)) (applyMem_wf hwf (cycleEffect s).mem)
    exact ⟨u, _, advances_succ hrun, congrArg (· + 1) hlength,
      undoes_cons hundo rfl rfl hwf (cycleEffect_previousFits s)⟩

end Sys2Proof.Machine

namespace Sys2Proof.Claims

open Sys2Proof.Machine

/-- Settles O41: the log of any number of clocks undoes them, UNDEF included. -/
theorem undoRestoresAnySequence : Obligations.UndoRestoresAnySequence := by
  intro n s hwf
  obtain ⟨u, log, hrun, hlength, hundo⟩ := advances_undoes n s hwf
  exact ⟨u, log, hrun, hlength, ⟨hundo.ram, congrArg ({ · with undef := 0 }) hundo.regs⟩,
    congrArg (List.map withoutUndef) hundo.effects⟩

/-- Settles O37: a store writes its operand, and what is no store has the event of its bus field. -/
theorem memoryEventOfEveryCycle : Obligations.MemoryEventOfEveryCycle := by
  refine fun s => ⟨_, _, step_eq s, rfl, fun hstore => ?_, fun hop hram => ?_, fun hop hram => ?_⟩
  · rw [endCycle_ram, cycleEffect_of_store hstore]
    exact ⟨storeEffect_mem _ _ s, (advance_storeEffect_read _ _ s _).trans (if_pos rfl)⟩
  · rw [cycleEffect_mem_of_ne_store hop, (busOf_eq_ram_iff _).mpr hram]
    rfl
  · rw [cycleEffect_mem_of_ne_store hop, busEvent_eq, if_neg (mt (busOf_eq_ram_iff _).mp hram)]

/-- Settles O38: the cycle latches the word at its old PC, and the next step executes what the latch holds. -/
theorem queuedIsTheAddressThatExecutesNext : Obligations.QueuedIsTheAddressThatExecutesNext := by
  intro s
  have hfetch := cycleEffect_fetches s
  have hnext := exec_decodeOpcode (endCycle (advance (cycleEffect s) s))
  rw [endCycle_regs, advance_regs, hfetch.ir] at hnext
  refine ⟨_, _, step_eq s, rfl, hfetch.queued, rfl, ?_⟩
  rw [hfetch.queued]
  exact ⟨hfetch.ir, hfetch.d, _, hnext, step_eq _⟩

/-- Settles O39: the CPU's part of a clock is `Apply` of the cycle's effect, and the RTI's part leaves the registers and
RAM alone. -/
theorem advanceIsApplyOfTheEffect : Obligations.AdvanceIsApplyOfTheEffect :=
  fun s => ⟨_, _, step_eq s, rfl, rfl, rfl, cycleEffect_previousFits s⟩

/-- Settles O40: the inverse swaps the old registers back in and writes the previous byte back. -/
theorem applyThenInverseRestores : Obligations.ApplyThenInverseRestores :=
  fun e s hwf hfits =>
    ⟨⟨applyMem_invertMem hwf hfits, rfl⟩, congrArg withoutUndef (invertEffect_invertEffect e s.regs)⟩

end Sys2Proof.Claims

/-! SUPPORT. The statements of 51_raster_timing.md: the CPU's independence of the RTI, the colour and the sync bits,
what one cycle of the RTI does, the length of a line, and a whole frame. A frame is followed through the bytes it shows:
each byte shown gives the next four pixels. The lemmas first, in the order of the definitions they speak of, then the
statements. -/

namespace Sys2Proof.Machine

/-! ### The CPU reads nothing of the RTI (R220, R238) -/

/-- The same state with the RTI, its configuration and the outputs of `t`. -/
abbrev withRaster (s t : State) : State :=
  { s with rti := t.rti, timing := t.timing, effect := t.effect, render := t.render, violation := t.violation }

theorem eq_withRaster_of_sameCpu {s s' : State} (h : SameCpu s s') : s' = withRaster s s' := by
  obtain ⟨hregs, hram, hrom, hinputs, hdraws, hcycle⟩ := h
  rw [withRaster, hregs, hram, hrom, hinputs, hdraws, hcycle]

theorem fieldsValue_withRaster (op : Operation) (b : Bus) (a : RamAddr) (s t : State) :
    fieldsValue op b a (withRaster s t) = fieldsValue op b a s := by
  cases b <;> rfl

theorem cycleEffect_withRaster (s t : State) : cycleEffect (withRaster s t) = cycleEffect s := by
  rw [cycleEffect, cycleEffect, fieldsEffect_eq, fieldsEffect_eq, fieldsValue_withRaster]
  rfl

theorem cycleEffect_of_sameCpu {s s' : State} (h : SameCpu s s') : cycleEffect s' = cycleEffect s := by
  rw [eq_withRaster_of_sameCpu h, cycleEffect_withRaster]

/-- One clock keeps the agreement of the two CPUs: the cycle has one effect in both. -/
theorem clock_keeps_sameCpu {s s' : State} (h : SameCpu s s') :
    SameCpu (endCycle (advance (cycleEffect s) s)) (endCycle (advance (cycleEffect s') s')) := by
  rw [cycleEffect_of_sameCpu h]
  obtain ⟨-, hram, hrom, hinputs, hdraws, hcycle⟩ := h
  exact ⟨rfl, congrArg (applyMem (cycleEffect s).mem) hram, hrom, congrArg List.tail hinputs,
    congrArg List.tail hdraws, congrArg (· + 1) hcycle⟩

/-- A run begins with one step. -/
theorem clocks_succ (n : Nat) (s : State) : clocks (n + 1) s = clocks n (endCycle (advance (cycleEffect s) s)) := by
  rw [clocks, step_eq]

/-! ### The colour (R224) -/

theorem colour_channels (o : Byte) :
    (colour o).red.toNat = 85 * (o.toNat % 4) ∧
    (colour o).green.toNat = 85 * (o.toNat / 4 % 4) ∧
    (colour o).blue.toNat = 85 * (o.toNat / 16 % 4) := by
  simp only [colour_eq_ofNat, BitVec.toNat_ofNat]
  omega

theorem colour_eq_iff (o p : Byte) : colour o = colour p ↔ o.toNat % 64 = p.toNat % 64 := by
  refine ⟨fun h => ?_, fun h => ?_⟩
  · have ho := colour_channels o
    have hp := colour_channels p
    rw [h] at ho
    omega
  · have hred : o.toNat % 4 = p.toNat % 4 := by omega
    have hgreen : o.toNat / 4 % 4 = p.toNat / 4 % 4 := by omega
    have hblue : o.toNat / 16 % 4 = p.toNat / 16 % 4 := by omega
    rw [colour_eq_ofNat, colour_eq_ofNat, hred, hgreen, hblue]

/-! ### One cycle of the RTI, by its edges (R226, R227, R231) -/

section
variable {r : Rti} {o : Byte}

theorem rtiStep_violation_iff (c : Timing) (r : Rti) (o : Byte) :
    (rtiStep c r o).violation = true ↔ horizontalFall r.prev o = true ∧ r.col ≠ hTotal c := by
  rw [rtiStep_violation, Bool.and_eq_true, bne_iff_ne]

theorem edgeActions_line_of_no_edge (hv : verticalFall r.prev o = false) (hh : horizontalFall r.prev o = false) :
    (edgeActions o r).line = r.line := by
  rw [edgeActions_line, hv, hh]
  exact add_zero _

theorem edgeActions_line_of_horizontal (hv : verticalFall r.prev o = false) (hh : horizontalFall r.prev o = true) :
    (edgeActions o r).line = r.line + 1 := by
  rw [edgeActions_line, hv, hh]
  rfl

theorem rtiStep_col_of_horizontal (c : Timing) (h : horizontalFall r.prev o = true) :
    (rtiStep c r o).rti.col = 4 := by
  rw [rtiStep_col, edgeActions_col, if_pos h]

theorem rtiStep_col_of_no_horizontal (c : Timing) (h : horizontalFall r.prev o = false) :
    (rtiStep c r o).rti.col = r.col + 4 := by
  rw [rtiStep_col, edgeActions_col, h]
  rfl

theorem rtiStep_front_of_vertical (c : Timing) (h : verticalFall r.prev o = true) :
    (rtiStep c r o).rti.front = r.back := by
  rw [rtiStep_front, edgeActions_front, if_pos h]

theorem rtiStep_front_of_no_vertical (c : Timing) (h : verticalFall r.prev o = false) :
    (rtiStep c r o).rti.front = r.front := by
  rw [rtiStep_front, edgeActions_front, h]
  rfl

/-- The line before the first is in no vertical window (R229). -/
theorem visibleAt_sentinel (c : Timing) (col : Nat) : visibleAt c (-1) col = false :=
  decide_eq_false fun ⟨hstart, _⟩ => by omega

/-- A vertical edge alone restarts the frame and shows nothing: its cycle is on the sentinel line. -/
theorem rtiStep_of_vertical_alone (c : Timing) (hv : verticalFall r.prev o = true)
    (hh : horizontalFall r.prev o = false) :
    (rtiStep c r o).rti.line = -1 ∧ (rtiStep c r o).rti.cursor = 0 ∧ (rtiStep c r o).rti.back = r.back := by
  have hline : (edgeActions o r).line = -1 := by rw [edgeActions_line, hv, hh]; rfl
  have hcursor : (edgeActions o r).cursor = 0 := by rw [edgeActions_cursor, if_pos hv]
  obtain ⟨hcursor', hback⟩ := (rtiStep_paint c r o).2 (by rw [hline]; exact visibleAt_sentinel c _)
  exact ⟨(rtiStep_line c r o).trans hline, hcursor'.trans hcursor, hback.trans (edgeActions_back o r)⟩

end

/-! ### Runs of the RTI and their edges -/

@[simp] theorem edgesOf_length (prev : Byte) (l : List Byte) : (edgesOf prev l).length = l.length := by
  induction l generalizing prev with
  | nil => rfl
  | cons o l ih => simp only [edgesOf, List.length_cons, ih]

@[simp] theorem lineEdges_length (l : List Byte) : (lineEdges l).length = l.length := by
  cases l with
  | nil => rfl
  | cons o l => simp only [lineEdges, List.length_cons, List.length_map]

theorem rtiRun_append (c : Timing) (r : Rti) (l m : List Byte) :
    rtiRun c r (l ++ m) =
      ((rtiRun c (rtiRun c r l).1 m).1, (rtiRun c r l).2 ++ (rtiRun c (rtiRun c r l).1 m).2) := by
  induction l generalizing r with
  | nil => rfl
  | cons o l ih => simp only [List.cons_append, rtiRun, ih]

/-- The edges after a run start from the byte the run ended with. -/
theorem edgesOf_append (c : Timing) (r : Rti) (l m : List Byte) :
    edgesOf r.prev (l ++ m) = edgesOf r.prev l ++ edgesOf (rtiRun c r l).1.prev m := by
  induction l generalizing r with
  | nil => rfl
  | cons o l ih => exact congrArg _ (ih (rtiStep c r o).rti)

/-- A run renders at its vertical edges (R236). -/
theorem rtiRun_renders (c : Timing) (r : Rti) (l : List Byte) :
    (rtiRun c r l).2.map Prod.fst = (edgesOf r.prev l).map Prod.fst := by
  induction l generalizing r with
  | nil => rfl
  | cons o l ih => exact congrArg (List.cons _) (ih (rtiStep c r o).rti)

theorem rtiRun_render_count (c : Timing) (r : Rti) (l : List Byte) :
    (rtiRun c r l).2.countP Prod.fst = (edgesOf r.prev l).countP Prod.fst := by
  have hcount := congrArg (List.countP id) (rtiRun_renders c r l)
  rwa [List.countP_map, List.countP_map, Function.id_comp] at hcount

/-- No horizontal falling edge among the bytes `l` after the byte `prev`. -/
def NoHorizontal (prev : Byte) (l : List Byte) : Prop := ∀ e ∈ edgesOf prev l, e.2 = false

/-- No falling edge among the bytes `l` after the byte `prev`. -/
def NoEdge (prev : Byte) (l : List Byte) : Prop := ∀ e ∈ edgesOf prev l, e = (false, false)

theorem noHorizontal_cons {prev o : Byte} {l : List Byte} :
    NoHorizontal prev (o :: l) ↔ horizontalFall prev o = false ∧ NoHorizontal o l :=
  List.forall_mem_cons

theorem noEdge_cons {prev o : Byte} {l : List Byte} :
    NoEdge prev (o :: l) ↔ (verticalFall prev o = false ∧ horizontalFall prev o = false) ∧ NoEdge o l :=
  List.forall_mem_cons.trans (and_congr_left' Prod.mk_inj)

theorem NoEdge.noHorizontal {prev : Byte} {l : List Byte} (h : NoEdge prev l) : NoHorizontal prev l :=
  fun e he => congrArg Prod.snd (h e he)

/-- Without a horizontal edge the column goes on by four in every cycle (R231). -/
theorem rtiRun_col {c : Timing} {r : Rti} {l : List Byte} (h : NoHorizontal r.prev l) :
    (rtiRun c r l).1.col = r.col + 4 * l.length := by
  induction l generalizing r with
  | nil => rfl
  | cons o l ih =>
    obtain ⟨hh, hrest⟩ := noHorizontal_cons.mp h
    have hcol := ih (r := (rtiStep c r o).rti) hrest
    rw [rtiStep_col_of_no_horizontal c hh] at hcol
    rw [rtiRun, hcol, List.length_cons]
    omega

/-- Without a horizontal edge there is no violation (R228). -/
theorem rtiRun_no_violation {c : Timing} {r : Rti} {l : List Byte} (h : NoHorizontal r.prev l) :
    ∀ out ∈ (rtiRun c r l).2, out.2 = false := by
  induction l generalizing r with
  | nil => exact fun out hout => absurd hout List.not_mem_nil
  | cons o l ih =>
    obtain ⟨hh, hrest⟩ := noHorizontal_cons.mp h
    refine List.forall_mem_cons.mpr ⟨?_, ih (r := (rtiStep c r o).rti) hrest⟩
    rw [rtiStep_violation, hh]
    rfl

/-- Without an edge the line stays (R227). -/
theorem rtiRun_line {c : Timing} {r : Rti} {l : List Byte} (h : NoEdge r.prev l) :
    (rtiRun c r l).1.line = r.line := by
  induction l generalizing r with
  | nil => rfl
  | cons o l ih =>
    obtain ⟨⟨hv, hh⟩, hrest⟩ := noEdge_cons.mp h
    rw [rtiRun, ih (r := (rtiStep c r o).rti) hrest, rtiStep_line, edgeActions_line_of_no_edge hv hh]

/-! ### The bytes shown (R229, R230) -/

/-- The bytes of a frame shown so far are `ps`: each has moved the cursor by four and coloured its four pixels, those
past the end of the frame aside. -/
structure Shows (c : Timing) (ps : List Byte) (r : Rti) : Prop where
  cursor : r.cursor = 4 * ps.length
  pixels : ∀ k o, k < pixelCount c → ps[k / 4]? = some o → frameRead r.back k = colour o

/-- The bytes shown of the rest of a line from column `col` on. -/
def shownFrom (c : Timing) (line : Int) : Nat → List Byte → List Byte
  | _, [] => []
  | col, o :: l =>
    if visibleAt c line col then o :: shownFrom c line (col + 4) l else shownFrom c line (col + 4) l

/-- The bytes shown of successive lines, the first of them line `line`. -/
def shownLines (c : Timing) : Int → List (List Byte) → List Byte
  | _, [] => []
  | line, l :: ls => shownFrom c line 0 l ++ shownLines c (line + 1) ls

section
variable {c : Timing} {ps : List Byte} {r : Rti}

/-- A cycle without a vertical edge shows its byte if its position is visible. -/
theorem rtiStep_shows {o : Byte} (hps : Shows c ps r) (hv : verticalFall r.prev o = false) :
    Shows c (ps ++ shownFrom c (edgeActions o r).line (edgeActions o r).col [o]) (rtiStep c r o).rti := by
  obtain ⟨hpaint, hblank⟩ := rtiStep_paint c r o
  have hcursor : (edgeActions o r).cursor = 4 * ps.length := by rw [edgeActions_cursor, hv]; exact hps.cursor
  rw [edgeActions_back, hcursor] at hpaint hblank
  simp only [shownFrom]
  split
  · next hvisible =>
    obtain ⟨hcursor', hback⟩ := hpaint hvisible
    refine ⟨by rw [hcursor', List.length_append, List.length_singleton, Nat.mul_succ], fun k p hk hp => ?_⟩
    rw [hback, paintPixels_read]
    by_cases hold : k / 4 < ps.length
    · rw [if_neg (by omega)]
      exact hps.pixels k p hk (by rwa [List.getElem?_append_left hold] at hp)
    · have hlt : k / 4 < (ps ++ [o]).length := List.getElem?_eq_some_iff.mp hp |>.1
      rw [List.length_append, List.length_singleton] at hlt
      have hlast : k / 4 = ps.length := by omega
      rw [hlast, List.getElem?_concat_length] at hp
      rw [if_pos (by omega), Option.some.inj hp]
  · next hhidden =>
    obtain ⟨hcursor', hback⟩ := hblank (Bool.eq_false_iff.mpr hhidden)
    rw [List.append_nil]
    exact ⟨hcursor', fun k p hk hp => by rw [hback]; exact hps.pixels k p hk hp⟩

/-- The bytes shown by the first cycle of a rest of a line, then those by the others. -/
theorem shownFrom_cons (c : Timing) (line : Int) (col : Nat) (o : Byte) (l : List Byte) :
    shownFrom c line col (o :: l) = shownFrom c line col [o] ++ shownFrom c line (col + 4) l := by
  simp only [shownFrom]
  split <;> rfl

/-- A run without edges shows the visible rest of its line. -/
theorem rtiRun_shows {l : List Byte} (hps : Shows c ps r) (h : NoEdge r.prev l) :
    Shows c (ps ++ shownFrom c r.line r.col l) (rtiRun c r l).1 := by
  induction l generalizing r ps with
  | nil => rw [shownFrom, List.append_nil]; exact hps
  | cons o l ih =>
    obtain ⟨⟨hv, hh⟩, hrest⟩ := noEdge_cons.mp h
    have hline := edgeActions_line_of_no_edge hv hh
    have hcol : (edgeActions o r).col = r.col := by rw [edgeActions_col, hh]; rfl
    have hfirst := rtiStep_shows hps hv
    have hothers := ih hfirst hrest
    rw [rtiStep_line, rtiStep_col, hline, hcol, List.append_assoc, ← shownFrom_cons] at hothers
    exact hothers

end

/-! ### A line and a frame of lines (R239) -/

section
variable {c : Timing} {r : Rti} {o : Byte} {l : List Byte}

theorem edges_of_line (h : edgesOf r.prev (o :: l) = lineEdges (o :: l)) :
    verticalFall r.prev o = false ∧ horizontalFall r.prev o = true ∧ NoEdge o l := by
  obtain ⟨hfirst, hrest⟩ := List.cons.inj h
  refine ⟨congrArg Prod.fst hfirst, congrArg Prod.snd hfirst, fun e he => ?_⟩
  rw [hrest] at he
  exact (List.mem_map.mp he).elim fun _ h => h.2.symm

theorem rtiRun_line_of_lineEdges (h : edgesOf r.prev (o :: l) = lineEdges (o :: l)) :
    (rtiRun c r (o :: l)).1.line = r.line + 1 := by
  obtain ⟨hv, hh, hrest⟩ := edges_of_line h
  rw [rtiRun, rtiRun_line (r := (rtiStep c r o).rti) hrest, rtiStep_line,
    edgeActions_line_of_horizontal hv hh]

theorem rtiRun_col_of_horizontal (hh : horizontalFall r.prev o = true) (hrest : NoHorizontal o l) :
    (rtiRun c r (o :: l)).1.col = 4 * (l.length + 1) := by
  rw [rtiRun, rtiRun_col (r := (rtiStep c r o).rti) hrest, rtiStep_col_of_horizontal c hh]
  omega

/-- Of a line, only the first cycle can report a violation (R228). -/
theorem rtiRun_violations_of_lineEdges (h : edgesOf r.prev (o :: l) = lineEdges (o :: l)) :
    ∀ out ∈ (rtiRun c r (o :: l)).2.tail, out.2 = false := by
  obtain ⟨-, -, hrest⟩ := edges_of_line h
  exact rtiRun_no_violation (r := (rtiStep c r o).rti) hrest.noHorizontal

/-- After a line of `HTOTAL` columns the first cycle reports none either. -/
theorem rtiRun_no_violation_of_lineEdges (h : edgesOf r.prev (o :: l) = lineEdges (o :: l)) (hcol : r.col = hTotal c) :
    ∀ out ∈ (rtiRun c r (o :: l)).2, out.2 = false := by
  refine List.forall_mem_cons.mpr ⟨?_, rtiRun_violations_of_lineEdges h⟩
  rw [rtiStep_violation, hcol, bne_self_eq_false, Bool.and_false]

theorem rtiRun_shows_of_lineEdges {ps : List Byte} (hps : Shows c ps r)
    (h : edgesOf r.prev (o :: l) = lineEdges (o :: l)) :
    Shows c (ps ++ shownFrom c (r.line + 1) 0 (o :: l)) (rtiRun c r (o :: l)).1 := by
  obtain ⟨hv, hh, hrest⟩ := edges_of_line h
  have hline := edgeActions_line_of_horizontal hv hh
  have hcol : (edgeActions o r).col = 0 := by rw [edgeActions_col, if_pos hh]
  have hshows := rtiRun_shows (rtiStep_shows hps hv) hrest
  rw [rtiStep_line, rtiStep_col, hline, hcol, List.append_assoc, ← shownFrom_cons] at hshows
  exact hshows

end

/-- `ls` are scan lines of `HTOTAL / 4` cycles after the byte `prev`, each begun by its only edge, a horizontal one. -/
structure ScanLines (c : Timing) (prev : Byte) (ls : List (List Byte)) : Prop where
  lengths : ∀ l ∈ ls, l.length = hTotal c / 4
  edges   : edgesOf prev ls.flatten = ls.flatMap lineEdges

section
variable {c : Timing} {r : Rti} {l : List Byte} {ls : List (List Byte)}

/-- The first scan line, and the others after the run over it. -/
theorem ScanLines.cons (h : ScanLines c r.prev (l :: ls)) :
    edgesOf r.prev l = lineEdges l ∧ ScanLines c (rtiRun c r l).1.prev ls := by
  obtain ⟨hlengths, hedges⟩ := h
  rw [List.flatten_cons, edgesOf_append c, List.flatMap_cons] at hedges
  obtain ⟨hfirst, hothers⟩ := List.append_inj hedges (by rw [edgesOf_length, lineEdges_length])
  exact ⟨hfirst, fun m hm => hlengths m (List.mem_cons_of_mem l hm), hothers⟩

/-- A scan line has a first byte. -/
theorem ScanLines.exists_cons (h : ScanLines c r.prev (l :: ls)) (hpos : 0 < hTotal c) (hwhole : 4 ∣ hTotal c) :
    ∃ o l', l = o :: l' ∧ 4 * (l'.length + 1) = hTotal c := by
  have hlength := h.lengths l List.mem_cons_self
  cases l with
  | nil => rw [List.length_nil] at hlength; omega
  | cons o l' => exact ⟨o, l', rfl, by rw [List.length_cons] at hlength; omega⟩

/-- Scan lines show the visible bytes of the coming lines. -/
theorem rtiRun_shows_scanLines {ps : List Byte} (hpos : 0 < hTotal c) (hwhole : 4 ∣ hTotal c)
    (h : ScanLines c r.prev ls) (hps : Shows c ps r) :
    Shows c (ps ++ shownLines c (r.line + 1) ls) (rtiRun c r ls.flatten).1 := by
  induction ls generalizing r ps with
  | nil => rw [shownLines, List.append_nil]; exact hps
  | cons l ls ih =>
    obtain ⟨hfirst, hothers⟩ := h.cons
    obtain ⟨o, l', rfl, -⟩ := h.exists_cons hpos hwhole
    have hshows := ih hothers (rtiRun_shows_of_lineEdges hps hfirst)
    rw [rtiRun_line_of_lineEdges hfirst, List.append_assoc] at hshows
    rw [List.flatten_cons, rtiRun_append]
    exact hshows

/-- Scan lines after a line of `HTOTAL` columns report no violation. -/
theorem rtiRun_no_violation_scanLines (hpos : 0 < hTotal c) (hwhole : 4 ∣ hTotal c)
    (h : ScanLines c r.prev ls) (hcol : r.col = hTotal c) : ∀ out ∈ (rtiRun c r ls.flatten).2, out.2 = false := by
  induction ls generalizing r with
  | nil => exact fun out hout => absurd hout List.not_mem_nil
  | cons l ls ih =>
    obtain ⟨hfirst, hothers⟩ := h.cons
    obtain ⟨o, l', rfl, hlength⟩ := h.exists_cons hpos hwhole
    obtain ⟨-, hh, hrest⟩ := edges_of_line hfirst
    rw [List.flatten_cons, rtiRun_append]
    exact List.forall_mem_append.mpr ⟨rtiRun_no_violation_of_lineEdges hfirst hcol,
      ih hothers ((rtiRun_col_of_horizontal hh hrest.noHorizontal).trans hlength)⟩

/-- Scan lines from any state report no violation after their first cycle. -/
theorem rtiRun_violations_scanLines (hpos : 0 < hTotal c) (hwhole : 4 ∣ hTotal c) (h : ScanLines c r.prev ls) :
    ∀ out ∈ (rtiRun c r ls.flatten).2.tail, out.2 = false := by
  cases ls with
  | nil => exact fun out hout => absurd hout List.not_mem_nil
  | cons l ls =>
    obtain ⟨hfirst, hothers⟩ := h.cons
    obtain ⟨o, l', rfl, hlength⟩ := h.exists_cons hpos hwhole
    obtain ⟨-, hh, hrest⟩ := edges_of_line hfirst
    rw [List.flatten_cons, rtiRun_append]
    exact List.forall_mem_append.mpr ⟨rtiRun_violations_of_lineEdges hfirst,
      rtiRun_no_violation_scanLines hpos hwhole hothers
        ((rtiRun_col_of_horizontal hh hrest.noHorizontal).trans hlength)⟩

/-- No scan line has a vertical edge. -/
theorem flatMap_lineEdges_no_vertical (ls : List (List Byte)) : ∀ e ∈ ls.flatMap lineEdges, e.1 = false := by
  intro e he
  obtain ⟨l, -, hl⟩ := List.mem_flatMap.mp he
  cases l with
  | nil => exact absurd hl List.not_mem_nil
  | cons o l =>
    refine (List.mem_cons.mp hl).elim (congrArg Prod.fst) fun hrest => ?_
    obtain ⟨_, -, rfl⟩ := List.mem_map.mp hrest
    rfl

end

/-! ### The bytes shown of a whole frame -/

/-- The bytes of a line that lie in the horizontal window. -/
def windowBytes (c : Timing) (l : List Byte) : List Byte := (l.take (windowEnd c.h / 4)).drop (windowStart c.h / 4)

theorem shownFrom_above_window {c : Timing} {line : Int} (h : line < windowStart c.v) (col : Nat) (l : List Byte) :
    shownFrom c line col l = [] := by
  induction l generalizing col with
  | nil => rfl
  | cons o l ih =>
    have hhidden : visibleAt c line col = false := decide_eq_false fun ⟨hstart, _⟩ => by omega
    rw [shownFrom, hhidden]
    exact ih (col + 4)

/-- On a visible line, what is shown from cycle `i` on is what is left of the window there. -/
theorem shownFrom_in_window {c : Timing} {line : Int} (hstart : (windowStart c.v : Int) ≤ line)
    (hend : line < windowEnd c.v) (hleft : 4 ∣ windowStart c.h) (hright : 4 ∣ windowEnd c.h) (i : Nat) (l : List Byte) :
    shownFrom c line (4 * i) l = (l.take (windowEnd c.h / 4 - i)).drop (windowStart c.h / 4 - i) := by
  induction l generalizing i with
  | nil => rw [List.take_nil, List.drop_nil, shownFrom]
  | cons o l ih =>
    have hvisible : visibleAt c line (4 * i) = decide (windowStart c.h / 4 ≤ i ∧ i < windowEnd c.h / 4) := by
      rw [visibleAt, decide_eq_decide]
      omega
    have hle : windowStart c.h ≤ windowEnd c.h := Nat.le_add_right _ _
    rw [shownFrom, hvisible, ← Nat.mul_succ, ih]
    by_cases hbefore : i < windowStart c.h / 4
    · have htake : windowEnd c.h / 4 - i = windowEnd c.h / 4 - (i + 1) + 1 := by omega
      have hdrop : windowStart c.h / 4 - i = windowStart c.h / 4 - (i + 1) + 1 := by omega
      rw [htake, hdrop, List.take_succ_cons, List.drop_succ_cons, decide_eq_false (by omega)]
      rfl
    · have hdrop : windowStart c.h / 4 - i = 0 := by omega
      have hdrop' : windowStart c.h / 4 - (i + 1) = 0 := by omega
      rw [hdrop, hdrop', List.drop_zero, List.drop_zero]
      by_cases hin : i < windowEnd c.h / 4
      · have htake : windowEnd c.h / 4 - i = windowEnd c.h / 4 - (i + 1) + 1 := by omega
        rw [htake, List.take_succ_cons, decide_eq_true (by omega)]
        rfl
      · have htake : windowEnd c.h / 4 - i = 0 := by omega
        have htake' : windowEnd c.h / 4 - (i + 1) = 0 := by omega
        rw [htake, htake', List.take_zero, List.take_zero, decide_eq_false (by omega)]
        rfl

/-- Of the lines up to the end of the vertical window, those from its start on show their windows. -/
theorem shownLines_to_windowEnd {c : Timing} (hleft : 4 ∣ windowStart c.h) (hright : 4 ∣ windowEnd c.h) (n : Nat)
    (ls : List (List Byte)) (h : n + ls.length = windowEnd c.v) :
    shownLines c n ls = (ls.drop (windowStart c.v - n)).flatMap (windowBytes c) := by
  induction ls generalizing n with
  | nil => rw [List.drop_nil]; rfl
  | cons l ls ih =>
    rw [List.length_cons] at h
    have hothers := ih (n + 1) (by omega)
    rw [Nat.cast_succ] at hothers
    rw [shownLines, hothers]
    by_cases habove : n < windowStart c.v
    · have hdrop : windowStart c.v - n = windowStart c.v - (n + 1) + 1 := by omega
      rw [shownFrom_above_window (by omega), hdrop, List.drop_succ_cons, List.nil_append]
    · have hdrop : windowStart c.v - n = 0 := by omega
      have hdrop' : windowStart c.v - (n + 1) = 0 := by omega
      have hline : shownFrom c n 0 l = windowBytes c l :=
        shownFrom_in_window (by omega) (by omega) hleft hright 0 l
      rw [hdrop, hdrop', hline]
      rfl

theorem windowBytes_length {c : Timing} {l : List Byte} (hleft : 4 ∣ windowStart c.h) (hwidth : 4 ∣ c.h.visible)
    (h : l.length = hTotal c / 4) : (windowBytes c l).length = c.h.visible / 4 := by
  have hend : windowEnd c.h = windowStart c.h + c.h.visible := rfl
  have htotal : windowEnd c.h ≤ hTotal c := by
    simp only [windowEnd, windowStart, hTotal]
    omega
  rw [windowBytes, List.length_drop, List.length_take]
  omega

theorem windowBytes_getElem? {c : Timing} {l : List Byte} {j : Nat} (hleft : 4 ∣ windowStart c.h)
    (h : j < c.h.visible / 4) : (windowBytes c l)[j]? = l[windowStart c.h / 4 + j]? := by
  have hend : windowEnd c.h = windowStart c.h + c.h.visible := rfl
  rw [windowBytes, List.getElem?_drop, List.getElem?_take_of_lt (by omega)]

/-- Element `j` of rows of one width, laid end to end, is element `j % w` of row `j / w`. -/
theorem getElem?_flatMap_of_width {α β : Type} {f : α → List β} {w : Nat} {rows : List α}
    (hw : ∀ a ∈ rows, (f a).length = w) {j : Nat} (hj : j < rows.length * w) :
    ∃ a, rows[j / w]? = some a ∧ (rows.flatMap f)[j]? = (f a)[j % w]? := by
  induction rows generalizing j with
  | nil => rw [List.length_nil, Nat.zero_mul] at hj; exact absurd hj (Nat.not_lt_zero j)
  | cons a rows ih =>
    obtain ⟨hfirst, hothers⟩ := List.forall_mem_cons.mp hw
    rw [List.length_cons, Nat.succ_mul] at hj
    rw [List.flatMap_cons]
    by_cases hlt : j < w
    · refine ⟨a, by rw [Nat.div_eq_of_lt hlt]; rfl, ?_⟩
      rw [List.getElem?_append_left (by omega), Nat.mod_eq_of_lt hlt]
    · have hle : w ≤ j := Nat.le_of_not_lt hlt
      have hpos : 0 < w := Nat.pos_of_ne_zero fun h0 => by subst h0; omega
      obtain ⟨b, hrow, helem⟩ := ih hothers (j := j - w) (by omega)
      refine ⟨b, by rw [Nat.div_eq_sub_div hpos hle]; exact hrow, ?_⟩
      rw [List.getElem?_append_right (by omega), hfirst, helem, ← Nat.mod_eq_sub_mod hle]

section
variable {c : Timing} {lines : List (List Byte)}

/-- The bytes a frame of `lines` shows: the window of every line of the vertical window. -/
def frameBytes (c : Timing) (lines : List (List Byte)) : List Byte :=
  (lines.drop (windowStart c.v)).flatMap (windowBytes c)

theorem shownRows_length (hcount : lines.length = windowEnd c.v) :
    (lines.drop (windowStart c.v)).length = c.v.visible := by
  rw [List.length_drop, hcount, windowEnd, Nat.add_sub_cancel_left]

theorem shownRows_width (hleft : 4 ∣ windowStart c.h) (hwidth : 4 ∣ c.h.visible)
    (hlengths : ∀ l ∈ lines, l.length = hTotal c / 4) :
    ∀ l ∈ lines.drop (windowStart c.v), (windowBytes c l).length = c.h.visible / 4 :=
  fun l hl => windowBytes_length hleft hwidth (hlengths l (List.mem_of_mem_drop hl))

theorem frameBytes_length (hleft : 4 ∣ windowStart c.h) (hwidth : 4 ∣ c.h.visible)
    (hlengths : ∀ l ∈ lines, l.length = hTotal c / 4) (hcount : lines.length = windowEnd c.v) :
    4 * (frameBytes c lines).length = pixelCount c := by
  have hwindow := shownRows_width hleft hwidth hlengths
  rw [frameBytes, List.length_flatMap, List.map_congr_left hwindow, List.map_const', List.sum_replicate,
    shownRows_length hcount, smul_eq_mul, Nat.mul_left_comm, Nat.mul_div_cancel' hwidth, pixelCount, Nat.mul_comm]

/-- The byte shown at pixel `k` is that of its line and column. -/
theorem frameBytes_getElem? (hleft : 4 ∣ windowStart c.h) (hwidth : 4 ∣ c.h.visible)
    (hlengths : ∀ l ∈ lines, l.length = hTotal c / 4) (hcount : lines.length = windowEnd c.v) {k : Nat}
    (hk : k < pixelCount c) :
    ∃ l o, lines[windowStart c.v + k / c.h.visible]? = some l ∧
      l[(windowStart c.h + k % c.h.visible) / 4]? = some o ∧ (frameBytes c lines)[k / 4]? = some o := by
  have hwindow := shownRows_width hleft hwidth hlengths
  obtain ⟨w, hw⟩ := hwidth
  have hw4 : c.h.visible / 4 = w := by omega
  have hj : k / 4 < c.v.visible * w := by
    rw [pixelCount, hw, Nat.mul_assoc, Nat.mul_comm w] at hk
    omega
  have hpos : 0 < w := Nat.pos_of_ne_zero fun h0 => by rw [h0, Nat.mul_zero] at hj; omega
  have hrow : k / 4 / w = k / c.h.visible := by rw [Nat.div_div_eq_div_mul, ← hw]
  have hcolumn : k / 4 % w = k % c.h.visible / 4 := by rw [hw, Nat.mod_mul_right_div_self]
  rw [hw4] at hwindow
  obtain ⟨l, hl, hbyte⟩ := getElem?_flatMap_of_width hwindow (by rwa [shownRows_length hcount])
  have hmod : k / 4 % w < w := Nat.mod_lt _ hpos
  have hsome : k / 4 % w < (windowBytes c l).length := by
    rw [hwindow l (List.mem_of_getElem? hl)]
    exact hmod
  rw [List.getElem?_drop, hrow] at hl
  refine ⟨l, (windowBytes c l)[k / 4 % w], hl, ?_, ?_⟩
  · rw [Nat.add_div_of_dvd_right hleft, ← hcolumn, ← windowBytes_getElem? hleft (by rwa [hw4])]
    exact List.getElem?_eq_getElem hsome
  · exact hbyte.trans (List.getElem?_eq_getElem hsome)

end

end Sys2Proof.Machine

namespace Sys2Proof.Claims

open Sys2Proof.Machine

/-- Settles O36, by induction on the number of clocks. -/
theorem rtiNeverInfluencesTheCpu : Obligations.RtiNeverInfluencesTheCpu := by
  intro n
  induction n with
  | zero => exact fun s s' h => ⟨s, s', rfl, rfl, h⟩
  | succ n ih =>
    intro s s' h
    rw [clocks_succ, clocks_succ]
    exact ih _ _ (clock_keeps_sameCpu h)

/-- Settles O52: the vertical edge starts a frame that shows nothing yet, and the scan lines then show one byte for
every four pixels. -/
theorem oneFrameFillsTheFramebuffer : Obligations.OneFrameFillsTheFramebuffer := by
  intro c r o lines hpos hwhole hleft hwidth hlengths hcount hedges q
  obtain ⟨hfirst, hothers⟩ := List.cons.inj hedges
  have hscan : ScanLines c (rtiStep c r o).rti.prev lines := ⟨hlengths, hothers⟩
  obtain ⟨hline, hcursor, -⟩ := rtiStep_of_vertical_alone c (congrArg Prod.fst hfirst) (congrArg Prod.snd hfirst)
  have hempty : Shows c [] (rtiStep c r o).rti := ⟨hcursor, fun k p _ hp => nomatch hp⟩
  have hshows : Shows c (frameBytes c lines) q.1 := by
    have hrun := rtiRun_shows_scanLines hpos hwhole hscan hempty
    have hbytes := shownLines_to_windowEnd hleft (Nat.dvd_add hleft hwidth) 0 lines (by omega)
    rw [hline, List.nil_append] at hrun
    rw [frameBytes, ← Nat.sub_zero (windowStart c.v), ← hbytes]
    exact hrun
  have hrenders : (q.2.filter fun out => out.1).length = 1 := by
    have hnone : (lines.flatMap lineEdges).countP Prod.fst = 0 :=
      List.countP_eq_zero.mpr fun e he => by rw [flatMap_lineEdges_no_vertical lines e he]; decide
    rw [← List.countP_eq_length_filter]
    exact (rtiRun_render_count c r _).trans (by rw [hedges, List.countP_cons_of_pos rfl, hnone])
  refine ⟨hrenders, ?_, hshows.cursor.trans (frameBytes_length hleft hwidth hlengths hcount), fun k hk => ?_⟩
  · have htail := rtiRun_violations_scanLines hpos hwhole hscan
    rw [← List.drop_one] at htail
    exact htail
  · obtain ⟨l, p, hl, hp, hbyte⟩ := frameBytes_getElem? hleft hwidth hlengths hcount hk
    exact ⟨l, p, hl, hp, hshows.pixels k p hk hbyte⟩

/-- Settles O45. -/
theorem colourOfAnOutByte : Obligations.ColourOfAnOutByte := by
  intro o
  obtain ⟨hred, hgreen, hblue⟩ := colour_channels o
  exact ⟨hred, hgreen, hblue, colour_eq_iff o⟩

/-- Settles O47: the RTI's part of the step is `rtiStep` on the OUT that the CPU's part leaves. -/
theorem renderAndViolationOfACycle : Obligations.RenderAndViolationOfACycle :=
  fun s => ⟨_, step_eq s, Iff.rfl, rtiStep_violation_iff _ _ _⟩

/-- Settles O48, by whether a horizontal edge comes with the vertical one. -/
theorem verticalEdgePresentsTheFrame : Obligations.VerticalEdgePresentsTheFrame := by
  refine fun c r o hv => ⟨rtiStep_front_of_vertical c hv, rtiStep_prev c r o, fun hh => ?_, fun hh => ?_⟩
  · refine ⟨?_, rtiStep_col_of_horizontal c hh⟩
    rw [rtiStep_line, edgeActions_line, hv, hh]
    rfl
  · obtain ⟨hline, hcursor, hback⟩ := rtiStep_of_vertical_alone c hv hh
    exact ⟨hline, rtiStep_col_of_no_horizontal c hh, hcursor, hback⟩

/-- Settles O49, by whether the horizontal bit falls. -/
theorem horizontalEdgeStartsALine : Obligations.HorizontalEdgeStartsALine :=
  fun c r o hv =>
    ⟨rtiStep_front_of_no_vertical c hv, rtiStep_prev c r o,
      fun hh => ⟨(rtiStep_line c r o).trans (edgeActions_line_of_horizontal hv hh), rtiStep_col_of_horizontal c hh⟩,
      fun hh => ⟨(rtiStep_line c r o).trans (edgeActions_line_of_no_edge hv hh), rtiStep_col_of_no_horizontal c hh⟩⟩

/-- Settles O50: the visibility test is the two windows, at the position the edge actions leave. -/
theorem paintingOfACycle : Obligations.PaintingOfACycle := by
  intro c r o v h line col cursor inside
  obtain ⟨hpaint, hblank⟩ := rtiStep_paint c r o
  rw [edgeActions_line, edgeActions_col, edgeActions_cursor, edgeActions_back] at hpaint hblank
  have hvisible : visibleAt c line col = true ↔ inside := by
    rw [visibleAt_iff, ← Nat.cast_add]
  refine ⟨fun hin => ?_, fun hout => ?_⟩
  · obtain ⟨hcursor, hback⟩ := hpaint (hvisible.mpr hin)
    exact ⟨hcursor, fun k => by rw [hback, paintPixels_read]; rfl⟩
  · obtain ⟨hcursor, hback⟩ := hblank (Bool.eq_false_iff.mpr (mt hvisible.mp hout))
    exact ⟨hcursor, fun k => by rw [hback]⟩

/-- Settles O51: the second edge finds the column at four times the cycles since the first. -/
theorem lineLengthDecidesTheViolation : Obligations.LineLengthDecidesTheViolation := by
  intro c r o₁ l o₂ hfirst hbetween q hsecond
  have hcol : q.col = 4 * (l.length + 1) := rtiRun_col_of_horizontal hfirst hbetween
  rw [rtiStep_violation_iff, hcol]
  exact and_iff_right hsecond

/-- Settles O46: bit 7 of a byte is whether it is at least 128. -/
theorem fallingEdgesOfTheSyncBits : Obligations.FallingEdgesOfTheSyncBits := by
  intro prev o
  refine ⟨?_, horizontalFall_iff prev o⟩
  rw [verticalFall_iff]
  omega

end Sys2Proof.Claims

/-! SUPPORT. The statements of 60_exceptions.md: every command completes, every command keeps the invariant, and where
a supplied draw goes. The lemmas first, then the statements. -/

namespace Sys2Proof.Machine

/-! ### What the host's commands leave of the invariant (R277) -/

/-- The invariant reads the RAM, the image and the RTI with its timing. No command of the host between clocks touches
the last three, so of such a command only the RAM it leaves is asked. -/
theorem Inv.of_ram_wf {s t : State} (h : Inv s) (hram : Memory.wf t.ram) (hrom : t.rom = s.rom)
    (hrti : t.rti = s.rti) (htiming : t.timing = s.timing) : Inv t where
  ram_wf := hram
  rom_fits := by rw [hrom]; exact h.rom_fits
  back_wf := by rw [hrti, htiming]; exact h.back_wf
  front_wf := by rw [hrti, htiming]; exact h.front_wf
  line_low := by rw [hrti]; exact h.line_low
  col_whole := by rw [hrti]; exact h.col_whole
  cursor_whole := by rw [hrti]; exact h.cursor_whole

/-- The RAM a hard reset leaves is canonical whatever bytes are drawn: it is filled from the empty RAM (R290). -/
theorem hardReset_ram_wf (w : HardResetDraw) (s : State) : Memory.wf (hardReset w s).ram :=
  ramFill_wf w.ram [] 0 reset_memory_wf

/-! ### Where the draw of a cycle goes (R135, R277)

The draw reaches a cycle through the latch alone: no bus source reads it. -/

/-- The same state with another draw for the coming cycle. -/
abbrev setDraw (s : State) (w : Byte) : State := { s with draws := w :: s.draws.tail }

/-- An effect with another UNDEF in the registers it carries. -/
abbrev setEffectUndef (e : CycleEffect) (w : Byte) : CycleEffect := { e with regs := { e.regs with undef := w } }

theorem fieldsValue_setDraw (op : Operation) (b : Bus) (a : RamAddr) (s : State) (w : Byte) :
    fieldsValue op b a (setDraw s w) = fieldsValue op b a s := by
  cases b <;> rfl

theorem cycleOf_setDraw (op : Operation) (mode : BitVec 3) (b : Bus) (v : Byte) (s : State) (w : Byte) :
    cycleOf op mode b v (setDraw s w) = setEffectUndef (cycleOf op mode b v s) w := rfl

theorem cycleEffect_setDraw (s : State) (w : Byte) :
    cycleEffect (setDraw s w) = setEffectUndef (cycleEffect s) w := by
  rw [cycleEffect, cycleEffect, fieldsEffect_eq, fieldsEffect_eq, fieldsValue_setDraw, cycleOf_setDraw]

/-- With another draw the cycle ends in the same state but for UNDEF and its copy in the effect. -/
theorem step_setDraw (s : State) (w : Byte) :
    let t := endCycle (advance (cycleEffect s) s)
    step (setDraw s w) =
      .next { t with regs := { t.regs with undef := w }, effect := t.effect.map (setEffectUndef · w) } := by
  rw [step_eq, cycleEffect_setDraw]
  rfl

/-- A step takes the first of the draws that wait. -/
theorem step_takes_draw {s : State} {u : Byte} {l : List Byte} (h : s.draws = u :: l) :
    ∃ t, step s = .next t ∧ t.regs.undef = u ∧ t.draws = l :=
  ⟨_, step_eq s, (cycleEffect_fetches s).undef.trans (entropyDraw_supplied h), congrArg List.tail h⟩

end Sys2Proof.Machine

namespace Sys2Proof.Claims

open Sys2Proof.Machine

/-- Settles O22: `exec` answers the cycle of its instruction's fields, `step` the end of that cycle, and a command
other than the clock answers outright. -/
theorem nothingEverStops : Obligations.NothingEverStops := by
  refine ⟨nofun, fun i s => ⟨_, exec_eq i s⟩, fun s => ⟨_, step_eq s⟩, fun c s => ?_⟩
  cases c with
  | clock => exact ⟨_, step_eq s⟩
  | supplyInput _ | supplyDraw _ | hardReset _ | softReset _ | apply _ => exact ⟨_, rfl⟩

/-- Settles O44, by the command: a clock is a step, and of any other command the RAM is what the invariant asks about:
kept, filled anew, or changed by the effect's write. -/
theorem hostCommandsKeepTheInvariant : Obligations.HostCommandsKeepTheInvariant := by
  intro c s t hs hcmd
  cases c with
  | clock => exact stepKeepsTheInvariant s t hs hcmd
  | supplyInput _ | supplyDraw _ | softReset _ =>
    cases hcmd
    exact hs.of_ram_wf hs.ram_wf rfl rfl rfl
  | hardReset w =>
    cases hcmd
    exact hs.of_ram_wf (hardReset_ram_wf w s) rfl rfl rfl
  | apply e =>
    cases hcmd
    exact hs.of_ram_wf (applyMem_wf hs.ram_wf e.mem) rfl rfl rfl

/-- Settles O59: a draw supplied to an empty list is the first that waits, and the first that waits reaches a cycle
through the latch alone. -/
theorem undefTakesTheSuppliedDraw : Obligations.UndefTakesTheSuppliedDraw := by
  refine ⟨fun s u hempty => ?_, fun s u l hdraws => step_takes_draw hdraws, fun s u w l hdraws => ?_⟩
  · have hdraws : (supplyDraw u s).draws = u :: [] := by rw [supplyDraw_draws, hempty]; rfl
    obtain ⟨v, hstep, hundef, hrest⟩ := step_takes_draw hdraws
    exact ⟨_, v, rfl, rfl, rfl, hstep, hundef, hrest⟩
  · obtain rfl : s.draws.tail = l := congrArg List.tail hdraws
    exact ⟨_, step_eq s, step_setDraw s w⟩

end Sys2Proof.Claims

/-! SUPPORT. The statements of 70_reset_and_hazards.md: what the two resets write, construction, and which words execute
first after a reset. The lemmas first, then the statements. -/

namespace Sys2Proof.Machine

/-! ### The content of a hard reset (R290) -/

/-- A RAM byte after a hard reset is the one drawn for its address, or an unlisted one past the end of the draw. -/
theorem hardReset_ramRead (w : HardResetDraw) (s : State) (k : RamAddr) :
    ramRead (hardReset w s).ram k = (w.ram[k.toNat]?).getD unlistedByte :=
  (ramFill_read w.ram [] 0 k).trans (if_pos (Nat.zero_le k.toNat))

/-! ### Construction (R293) -/

theorem construct_of_ok {image : List Byte} (h : imageOk image = true) (timing : Timing) (w : HardResetDraw) :
    construct image timing w =
      some (hardReset w { State.reset with rom := imageWords image, timing := timing }) := by
  rw [construct, loadImage_of_ok h]

theorem construct_of_not_ok {image : List Byte} (h : ¬ imageOk image = true) (timing : Timing) (w : HardResetDraw) :
    construct image timing w = none := by
  rw [construct, loadImage_of_not_ok h]

/-- Hard resetting the initial state with draws of zero writes what already stands there. -/
theorem hardReset_zeroDraw_reset : hardReset zeroDraw State.reset = State.reset := rfl

/-! ### The row LD D, [D]>AC (R295) -/

/-- The state after LD with its data byte as source and AC as destination. -/
def afterLoadData (s : State) : State := endCycle (advance (aluEffect .load .dToAc .data s) s)

theorem step_loadData {s : State} (h : s.regs.ir = 0x00) : step s = .next (afterLoadData s) :=
  step_of_encodeOpcode (h.trans Laws.MatrixOpcode.ldD_dToAc.2.symm) (exec_ldInstr .dToAc .data s)

theorem afterLoadData_ac (s : State) : (afterLoadData s).regs.ac = s.regs.d :=
  aluEffect_ac .load .dToAc .data s

end Sys2Proof.Machine

namespace Sys2Proof.Claims

open Sys2Proof.Machine

/-- Settles O57: the first cycle, whatever it executes, fetches at the reset PC; the second executes what it fetched. -/
theorem romWordZeroExecutesSecondAfterHardReset : Obligations.RomWordZeroExecutesSecondAfterHardReset := by
  intro w s
  obtain ⟨t, hfirst, hir, hd⟩ := fetchedWordIsLatched (hardReset w s)
  rw [hardReset_regs, hardReset_rom] at hir hd
  obtain ⟨u, hsecond⟩ : ∃ u, step t = .next u := ⟨_, step_eq t⟩
  refine ⟨t, u, hfirst, hsecond, hir, hd, fun hword => ?_⟩
  have hload : t.regs.ir = 0x00 := hir.trans (congrArg RomWord.opcode hword)
  have hdata : t.regs.d = 0x42 := hd.trans (congrArg RomWord.data hword)
  obtain rfl : afterLoadData t = u := Host.Outcome.next.inj ((step_loadData hload).symm.trans hsecond)
  rw [afterLoadData_ac, hdata]

/-- Settles O53: of the RAM, what is read after filling it from the empty one. -/
theorem hardResetTakesTheDraws : Obligations.HardResetTakesTheDraws :=
  fun w s => ⟨hardReset_regs w s, hardReset_ramRead w s, hardReset_rom w s, hardReset_rti w s, hardReset_timing w s⟩

/-- Settles O54, by whether the image has a ROM. -/
theorem constructionLoadsAndResets : Obligations.ConstructionLoadsAndResets := by
  refine fun image timing w => ⟨fun hok => ?_, fun hbad => ?_⟩
  · exact ⟨_, construct_of_ok hok timing w, hardReset_rom _ _, hardReset_timing _ _, hardReset_regs _ _,
      hardReset_ram _ _, hardReset_rti _ _, fun _ => rfl⟩
  · exact construct_of_not_ok (Bool.eq_false_iff.mp hbad) timing w

/-- Settles O55: the empty image has a ROM, and the zero draw changes nothing of the initial state. -/
theorem resetIsTheZeroDraw : Obligations.ResetIsTheZeroDraw :=
  (construct_of_ok (by decide) exampleTiming zeroDraw).trans (congrArg some hardReset_zeroDraw_reset)

/-- Settles O56. -/
theorem softResetReflectsRomWordZero : Obligations.SoftResetReflectsRomWordZero :=
  fun s pc => ⟨softReset_regs s pc, softReset_ram s pc, softReset_rom s pc, softReset_rti s pc, rfl⟩

/-- Settles O58: ROM word 0 already waits in IR, and the first clock fetches at the PC the reset was given. -/
theorem romWordZeroAfterSoftReset : Obligations.RomWordZeroAfterSoftReset :=
  fun s => ⟨congrArg Regs.ir (softReset_regs s 0x0000), fetchedWordIsLatched (softReset s 0x0000),
    fetchedWordIsLatched (softReset s 0x0001)⟩

end Sys2Proof.Claims
